-- ==== Sys2Proof/Word.lean ====
section
/-! DEFINITION. The one word type of the part that is treated as bits: the byte of rows, keys, frames and
notices. Every other quantity of the spec is a count, a size, an index or a length and is a `Nat`. -/

namespace Sys2Proof

/-- A byte: eight bits of row data, of a text, of a frame or of a notice (R79, R175, R181). -/
abbrev Byte := BitVec 8

/-- A character text, one byte code per character (1.10). -/
abbrev Text := List Byte

end Sys2Proof
end

