-- ==== Sys2Proof/Syntax.lean ====
section
/-! DEFINITION. The commands of the part: one constructor per row of spec/opcode_table.json, in the table's
order, with the operands that the row's rule gives it. A request carries the port it came in on and its tag
(R175). A value that the spec checks (a port letter, a class, a rotation, an imprint, a bank) is carried as
its code, so that the command can be refused; the codes are those of R179. -/

namespace Sys2Proof

/-- The four Line Ports (R174). Their order is A, B, C, D (1.11). -/
inductive Port
  | a | b | c | d
  deriving DecidableEq, Repr

/-- The class of a port, fixed by its strap pins (1.2, R174). -/
inductive PortClass
  | feeder | bureau
  deriving DecidableEq, Repr

/-- One value for each port. -/
structure PerPort (α : Type) where
  a : α
  b : α
  c : α
  d : α
  deriving DecidableEq, Repr

/-- A command: a row of spec/opcode_table.json. -/
inductive Instr
  /-- POWER_ON (R1): the straps are read as given. -/
  | powerOn (straps : PerPort PortClass)
  /-- DEVICE_RESET (R1): the straps are read as given. -/
  | deviceReset (straps : PerPort PortClass)
  /-- LINK_UP (R174). -/
  | linkUp (p : Port)
  /-- LINK_DOWN (R174). -/
  | linkDown (p : Port)
  /-- BAD_FRAME (R176): a received frame that fails test 1. -/
  | badFrame (p : Port)
  /-- UNKNOWN_REQUEST (R177): a frame whose kind code names no request. With the code of a request: a frame whose body has
  not the form of that request (R176, log entry 22). -/
  | unknownRequest (p : Port) (tag kind : Nat)
  /-- SELECT_LAYOUT (R5). -/
  | selectLayout (p : Port) (tag entry : Nat)
  /-- SET_LAYOUT (R6): the fields of R4 in their order; frame sides in micrometres. -/
  | setLayout (p : Port) (tag entry rows cols index reduction width height imprint : Nat)
  /-- CLOSE_SHEET (R15). -/
  | closeSheet (p : Port) (tag : Nat)
  /-- HALT (R22). -/
  | halt (p : Port) (tag : Nat)
  /-- RESUME (R23). -/
  | resume (p : Port) (tag : Nat)
  /-- ABORT_SHEET (R24). -/
  | abortSheet (p : Port) (tag : Nat)
  /-- SET_LIMITS (R20): pause, completion and age limits in seconds, starve-close ON or OFF. -/
  | setLimits (p : Port) (tag pause completion age : Nat) (starve : Bool)
  /-- SET_CLOSE_GROUP (R17): the set of ports as bits 0 to 3 for A to D. -/
  | setCloseGroup (p : Port) (tag ports : Nat)
  /-- SET_SERIAL (R11). -/
  | setSerial (p : Port) (tag value : Nat)
  /-- SUBMIT_DOCUMENT (R37). -/
  | submitDocument (p : Port) (tag : Nat) (key : Text) (cls : Nat) (stream : Bool) (count : Nat) (pages : List Nat)
  /-- BATCH_MARK (R40). -/
  | batchMark (p : Port) (tag : Nat)
  /-- CANCEL_DOCUMENT (R41). -/
  | cancelDocument (p : Port) (tag doc : Nat)
  /-- QUERY_DOCUMENT (R45). -/
  | queryDocument (p : Port) (tag doc : Nat)
  /-- DEFINE_PAGE (R75): the rotation is a code 0 to 3. -/
  | definePage (p : Port) (tag width height depth dpi rotation : Nat)
  /-- PUT_ROWS (R79, R80). -/
  | putRows (p : Port) (tag page first count : Nat) (data : List Byte)
  /-- QUERY_PAGE (R85). -/
  | queryPage (p : Port) (tag page : Nat)
  /-- DROP_PAGE (R87). -/
  | dropPage (p : Port) (tag page : Nat)
  /-- SET_QUOTA (R78). -/
  | setQuota (p : Port) (tag port value : Nat)
  /-- SET_TONE_MAP (R109). -/
  | setToneMap (p : Port) (tag port : Nat) (map : List Nat)
  /-- SET_OVERLAY_MAP (R114). -/
  | setOverlayMap (p : Port) (tag glyph cell : Nat)
  /-- WRITE_CURVE (R110). -/
  | writeCurve (p : Port) (tag bank start count : Nat) (entries : List Nat)
  /-- SELECT_CURVE_BANK (R111). -/
  | selectCurveBank (p : Port) (tag bank : Nat)
  /-- SET_FILM_RESPONSE (R112). -/
  | setFilmResponse (p : Port) (tag : Nat) (points : List Nat)
  /-- SET_WRITER (R113). -/
  | setWriter (p : Port) (tag gain dotTime : Nat)
  /-- MEASURE_BEAM (R142). -/
  | measureBeam (p : Port) (tag : Nat)
  /-- SET_BEAM_WINDOW (R143). -/
  | setBeamWindow (p : Port) (tag floorIndex driftLimit : Nat)
  /-- LOAD_FILM (R148). -/
  | loadFilm (p : Port) (tag count : Nat) (lot : Text) (factor : Nat)
  /-- UNLOAD_FILM (R150). -/
  | unloadFilm (p : Port) (tag : Nat)
  /-- READ_INDEX (R165). -/
  | readIndex (p : Port) (tag serial start : Nat)
  /-- READ_FRAME (R166): frame number 255 selects the title (R179). -/
  | readFrame (p : Port) (tag serial frame : Nat)
  /-- SET_TITLE (R173). -/
  | setTitle (p : Port) (tag : Nat) (text : Text)
  /-- FETCH_NOTICES (R182). -/
  | fetchNotices (p : Port) (tag : Nat)
  /-- SET_NOTICE_MASK (R183). -/
  | setNoticeMask (p : Port) (tag mask : Nat)
  /-- ATTENTION_DONE (R184). -/
  | attentionDone (p : Port) (tag : Nat)
  /-- READ_STATUS (R185). -/
  | readStatus (p : Port) (tag : Nat)
  /-- PORT_RESET (R187). -/
  | portReset (p : Port) (tag : Nat)
  /-- AGE_TIMER_EXPIRY (R14). -/
  | ageTimerExpiry
  /-- COMPLETION_TIMER_EXPIRY (R18). -/
  | completionTimerExpiry
  /-- PAUSE_TIMER_EXPIRY (R128). -/
  | pauseTimerExpiry
  /-- QUIET_TIMER_EXPIRY (R184). -/
  | quietTimerExpiry (p : Port)
  /-- OPERATION_TIMEOUT (R156): of the motion in progress. -/
  | operationTimeout
  /-- SERIAL_WRITE_COMPLETE (R10): the read-back matched, or it did not. -/
  | serialWriteComplete (verified : Bool)
  /-- OPENING_ADVANCE_COMPLETE (R152). -/
  | openingAdvanceComplete
  /-- FINISHING_CUT_COMPLETE (R27). -/
  | finishingCutComplete
  /-- LEADER_IN_ADVANCE_COMPLETE (R149). -/
  | leaderInAdvanceComplete
  /-- LEADER_OUT_ADVANCE_COMPLETE (R150). -/
  | leaderOutAdvanceComplete
  /-- STAGE_ARRIVAL (R154). -/
  | stageArrival
  /-- HOMING_COMPLETE (R155). -/
  | homingComplete
  /-- MEASUREMENT_COMPLETE (R137): the power on the sensor's scale; above 2047 it reads 2047 (R136). -/
  | measurementComplete (power : Nat)
  /-- LINE_END (R122): the end of a line's retrace. -/
  | lineEnd
  /-- POSITION_LOSS (R157). -/
  | positionLoss
  /-- GATE_RELEASE (R157). -/
  | gateRelease
  /-- FRAME_START (R118). -/
  | frameStart
  /-- GRANT (R53): the next step of the arbiter's run is a grant. -/
  | grant
  /-- REJECTION (R64): the next step of the arbiter's run is a rejection. -/
  | rejection
  /-- RETAKE_UNFIT (R58): the next step of the arbiter's run finds a retake UNFIT. -/
  | retakeUnfit
  /-- TRY_FAILURE (R61): the next step of the arbiter's run is a failed try. -/
  | tryFailure
  /-- RETRACE_START (R122): the slot of a line's last dot ends. -/
  | retraceStart
  /-- ROWS_WRITTEN (R81): the store finishes the oldest accepted PUT ROWS. -/
  | rowsWritten
  deriving DecidableEq, Repr

end Sys2Proof
end

