-- ==== Sys2Proof/Machine/Types.lean ====
section
/-! DEFINITION. The records of the part, block by block. Everything is plain data. A table keyed by handles is a
list of (handle, record) pairs with handles rising; a value held per port is a `PerPort`. -/

namespace Sys2Proof.Machine

/-- A table keyed by handles: pairs with strictly rising keys. -/
abbrev Table (α : Type) := List (Nat × α)

/-! ## Line Ports (chapter 10) -/

/-- R178: the status byte of a reply. -/
inductive Status
  | ok | badFrame | busy | unknownRequest | notPermitted | badHandle | notOwner | badValue | outOfOrder
  | storeFull | overQuota | tableFull | queueFull | inUse | tooLate | tooLarge | wrongState | noFilm | bankActive
  deriving DecidableEq, Repr

/-- R175: a reply handed to the link: its kind byte, its tag, its status and its body. -/
structure Reply where
  kind   : Nat
  tag    : Nat
  status : Status
  body   : List Byte
  deriving DecidableEq, Repr

/-- R54: consecutive frame numbers held by one entry, as first frame and frame count. -/
structure Run where
  first : Nat
  count : Nat
  deriving DecidableEq, Repr

/-- R53, R163: the kind of an index entry. -/
inductive EntryKind
  | normal | retake
  deriving DecidableEq, Repr

/-- R64: why a document is rejected. -/
inductive Reason
  | unfit | tooLong
  deriving DecidableEq, Repr

/-- R131: why a frame is spoiled. -/
inductive SpoilCause
  | beam | stage | pause | abort
  deriving DecidableEq, Repr

/-- R56: what followed a spoil, as FRAME_SPOILED reports it. -/
inductive SpoilOutcome
  | retakeAdded | pageLost | neither
  deriving DecidableEq, Repr

/-- R21: a cause in the halt list. -/
inductive HaltCause
  | manual | beam | stage | transport | serial
  deriving DecidableEq, Repr

/-- R30: the state of a document. -/
inductive DocState
  | queued | placing | placed | done | damaged | incomplete | cancelled | rejected
  deriving DecidableEq, Repr

/-- R181: a notice record with its fields. -/
inductive Notice
  | placed (serial doc : Nat) (kind : EntryKind) (num firstPage pageCount : Nat) (runs : List Run)
      (spoiledSerial spoiledFrame : Nat)
  | rejected (doc : Nat) (reason : Reason) (page : Nat)
  | rowsWanted (page row received : Nat)
  | frameSpoiled (serial frame doc page : Nat) (cause : SpoilCause) (outcome : SpoilOutcome)
  | docFinal (doc : Nat) (state : DocState) (reason : Option Reason) (exposed lost : Nat)
  | sheetOpened (serial layout : Nat)
  | sheetFinished (serial : Nat) (aborted : Bool)
  | halted (cause : HaltCause)
  | resumed
  | filmLow (count : Nat) (lot : Text)
  deriving DecidableEq, Repr

/-- R176: a request whose owning block waits on an event keeps its port BUSY. `resumeBeam` waits for a
measurement, `resumeSerial` for the repeated serial write (R23). -/
inductive InFlight
  | measureBeam (tag : Nat)
  | resumeBeam (tag : Nat)
  | resumeSerial (tag : Nat)
  | putRows (tag : Nat)
  deriving DecidableEq, Repr

/-- A Line Port (R174, R176, R180, R183, R184). -/
structure PortRec where
  /-- The class read from the straps. -/
  cls     : PortClass
  /-- The link state: UP or DOWN. -/
  up      : Bool
  /-- The request handler: BUSY with a request in flight, or IDLE. -/
  busy    : Option InFlight
  /-- The replies handed to the link, oldest first. -/
  sent    : List Reply
  /-- The notice queue, oldest first. -/
  notices : List Notice
  /-- The overrun flag. -/
  overrun : Bool
  /-- The attention mask: bit k - 1 enables the kind with code k. -/
  mask    : BitVec 10
  /-- The quiet timer: when it was started, while it runs. -/
  quiet   : Option Nat
  deriving DecidableEq, Repr

/-! ## Documents and port queues (chapter 2) -/

/-- R29: the class of a document. -/
inductive DocClass
  | keep | flow
  deriving DecidableEq, Repr

/-- R31: what became of a page. -/
inductive PageOutcome
  | none | exposed | lost
  deriving DecidableEq, Repr

/-- R31: the outcome and the spoil count of one page of a document. -/
structure PageMark where
  outcome : PageOutcome
  spoils  : Nat
  deriving DecidableEq, Repr

/-- R29: one serial of a document's sheet list, and whether the document has a NORMAL entry on that sheet
(the part number of R54 counts those). -/
structure SheetRef where
  serial : Nat
  normal : Bool
  deriving DecidableEq, Repr

/-- R29: a document record. Its handle is its key in the table. -/
structure Doc where
  owner  : Port
  key    : Text
  cls    : DocClass
  stream : Bool
  /-- The page handles, page 1 first, and what became of each page. -/
  pages  : List (Nat × PageMark)
  state  : DocState
  /-- The placed-page count. -/
  placed : Nat
  sheets : List SheetRef
  deriving DecidableEq, Repr

/-- R33: an item of a port queue. -/
inductive Item
  | doc (handle : Nat)
  | mark
  deriving DecidableEq, Repr

/-- R33: a port queue; `cursor` items are passed, the rest are unplaced. -/
structure Queue where
  items  : List Item
  cursor : Nat
  deriving DecidableEq, Repr

/-- The Document Queue Unit. -/
structure DocUnit where
  table  : Table Doc
  queues : PerPort Queue
  deriving DecidableEq, Repr

/-! ## Image Store (chapter 4) -/

/-- R73: the state of a page. -/
inductive PageState
  | receiving | complete
  deriving DecidableEq, Repr

/-- R73: clockwise rotation of a page. -/
inductive Rotation
  | r0 | r90 | r180 | r270
  deriving DecidableEq, Repr

/-- R73: a page record. Its handle is its key in the table. -/
structure Page where
  owner        : Port
  width        : Nat
  height       : Nat
  depth        : Nat
  dpi          : Nat
  rotation     : Rotation
  rowBytes     : Nat
  rowsPerBlock : Nat
  rowMap       : List Nat
  received     : Nat
  state        : PageState
  attached     : Option Nat
  deriving DecidableEq, Repr

/-- R71: the page that holds a block, and the block's position in that page's row map. -/
structure BlockUse where
  page     : Nat
  position : Nat
  deriving DecidableEq, Repr

/-- R83: the writer wait: a page and the row it needs. -/
structure WriterWait where
  page : Nat
  row  : Nat
  deriving DecidableEq, Repr

/-- R81, R84: an accepted PUT ROWS whose rows are being written. -/
structure PendingWrite where
  port  : Port
  tag   : Nat
  page  : Nat
  first : Nat
  count : Nat
  data  : List Byte
  deriving DecidableEq, Repr

/-- The Image Store. -/
structure Store where
  /-- The block memory, as the bytes that differ from what an unlisted address reads as. -/
  memory   : List Host.Cell
  /-- The block map: `none` is FREE. -/
  blockMap : List (Option BlockUse)
  freeList : List Nat
  pages    : Table Page
  held     : PerPort Nat
  quota    : PerPort Nat
  wait     : Option WriterWait
  /-- The accepted PUT ROWS requests in flight, oldest first (R90). -/
  writes   : List PendingWrite
  deriving DecidableEq, Repr

/-! ## Sheet records (chapters 1, 6 and 9) -/

/-- R4: where the imprint stands. -/
inductive Imprint
  | off | bottomLeft | bottomRight
  deriving DecidableEq, Repr

/-- R4: a layout table entry; frame sides in micrometres. -/
structure Layout where
  rows      : Nat
  cols      : Nat
  index     : Nat
  reduction : Nat
  width     : Nat
  height    : Nat
  imprint   : Imprint
  deriving DecidableEq, Repr

/-- R133: a frame report. -/
structure Report where
  width     : Nat
  height    : Nat
  scale     : Nat
  pitch     : Nat
  ox        : Nat
  oy        : Nat
  pStart    : Nat
  pMin      : Nat
  pMax      : Nat
  lines     : Nat
  saturated : Nat
  isSaturated : Bool
  isDrift     : Bool
  isStreamed  : Bool
  cause     : Option SpoilCause
  deriving DecidableEq, Repr

/-- R8: the state of a frame. -/
inductive FrameState
  | free | placed | ready | exposing | paused | exposed | spoiled | void
  deriving DecidableEq, Repr

/-- R8: the kind of a frame. -/
inductive FrameKind
  | data | retake | index
  deriving DecidableEq, Repr

/-- R162: the page reference of a frame record, as it stood at the grant. `index` counts pages from 1. -/
structure PageRef where
  page  : Nat
  doc   : Nat
  owner : Port
  index : Nat
  deriving DecidableEq, Repr

/-- R162: a frame record. -/
structure FrameRec where
  state  : FrameState
  kind   : FrameKind
  ref    : Option PageRef
  report : Option Report
  deriving DecidableEq, Repr

/-- R164: the two statuses of an entry that events set; without one the status follows from the frames. -/
inductive EntryMark
  | void | incomplete
  deriving DecidableEq, Repr

/-- R164: the status of an entry. -/
inductive EntryStatus
  | void | incomplete | partlySpoiled | exposed | placed
  deriving DecidableEq, Repr

/-- R163: an index entry. -/
structure Entry where
  doc       : Nat
  owner     : Port
  key       : Text
  kind      : EntryKind
  /-- The part number of a NORMAL entry, the retake number of a RETAKE entry. -/
  num       : Nat
  firstPage : Nat
  pageCount : Nat
  runs      : List Run
  /-- For a RETAKE entry, the serial and frame number of the spoiled frame. -/
  spoiled   : Option (Nat × Nat)
  mark      : Option EntryMark
  deriving DecidableEq, Repr

/-- R161: the status of a sheet record. -/
inductive SheetStatus
  | opened | closed | finished | aborted
  deriving DecidableEq, Repr

/-- R161: the close reason. -/
inductive CloseReason
  | full | starved | age | barrier | forced
  deriving DecidableEq, Repr

/-- R7: the title status. -/
inductive TitleStatus
  | pending | exposed | spoiled
  deriving DecidableEq, Repr

/-- R161: a sheet record, with the frame table and the entry list. -/
structure SheetRec where
  serial      : Nat
  layoutNo    : Nat
  layout      : Layout
  lot         : Text
  bank        : Nat
  status      : SheetStatus
  reason      : Option CloseReason
  frames      : List FrameRec
  entries     : List Entry
  revision    : Nat
  title       : TitleStatus
  titleReport : Option Report
  deriving DecidableEq, Repr

/-- R168, R171: the rendered index pages (50 lines of 76 characters each) and title (2 lines of 75), as text;
the dots follow from the text by the character generator. -/
structure Rendered where
  pages : List (List Text)
  title : List Text
  deriving DecidableEq, Repr

/-- The Index Builder. -/
structure IndexUnit where
  current  : Option SheetRec
  /-- The ring of closed sheet records, oldest first. -/
  ring     : List SheetRec
  /-- The title template. -/
  template : Text
  /-- The rendered pages, from the entry to INDEXING to the sheet's finish. -/
  rendered : Option Rendered
  deriving DecidableEq, Repr

/-! ## Sheet Composer (chapters 1 and 3) -/

/-- R1: the sheet state. -/
inductive SheetState
  | unloaded | idle | opening | open | closing | indexing | finishing
  deriving DecidableEq, Repr

/-- R10: the serial write; `none` before any sheet has been opened. -/
inductive SerialWrite
  | none | writing | verified | failed
  deriving DecidableEq, Repr

/-- R55: a retake record. -/
structure Retake where
  page   : Nat
  doc    : Nat
  owner  : Port
  index  : Nat
  num    : Nat
  serial : Nat
  frame  : Nat
  deriving DecidableEq, Repr

/-- R50, R60: an arbiter run in progress: whether it is in its retake phase, the port that the port phase
considers next, and the considerations in succession that have made no grant. -/
structure ArbRun where
  retakes : Bool
  port    : Port
  count   : Nat
  deriving DecidableEq, Repr

/-- The Sheet Composer. Times are ticks of `State.now`; limits are seconds. -/
structure Composer where
  sheet         : SheetState
  halts         : List HaltCause
  /-- R10: the exhausted mark of the film loaded. -/
  exhausted     : Bool
  layouts       : List Layout
  nextLayout    : Nat
  run           : Option ArbRun
  /-- R48: the rotation pointer. -/
  pointer       : Port
  heldFlags     : PerPort Bool
  retakes       : List Retake
  marks         : PerPort Bool
  pendingMarks  : PerPort Bool
  group         : PerPort Bool
  nextSerial    : Nat
  greatest      : Nat
  /-- R9: the non-volatile serial cell. -/
  cell          : Nat
  write         : SerialWrite
  pauseLimit    : Nat
  completionLimit : Nat
  ageLimit      : Nat
  starveClose   : Bool
  /-- R14: the age timer, as the time it measures from, while it runs. -/
  age           : Option Nat
  /-- R18: the completion timer, as the time it measures from, while it runs. -/
  completion    : Option Nat
  /-- When the sheet in the stage received its first grant, if it has. -/
  firstGrant    : Option Nat
  /-- R3: the opening advance of the sheet in OPENING has completed. -/
  advanced      : Bool
  /-- R25: an abort taken in OPENING waits for the serial write before it asks for the finishing advance. -/
  finishDue     : Bool
  deriving DecidableEq, Repr

/-! ## Dose Unit (chapter 5) -/

/-- R107: the settings that latch at each frame start. -/
structure FrameSettings where
  gain    : Nat
  dotTime : Nat
  /-- The overlay map, for overlay values 1 and 2. -/
  glyphTone : Nat
  cellTone  : Nat
  tone    : List Nat
  deriving DecidableEq, Repr

/-- R108: the settings that latch at OPENING. -/
structure SheetSettings where
  bank     : Nat
  response : List Nat
  lot      : Nat
  deriving DecidableEq, Repr

/-- The Dose Unit: staged copies, the two curve banks and the latched copies (R91). -/
structure DoseUnit where
  tones     : PerPort (List Nat)
  glyphTone : Nat
  cellTone  : Nat
  gain      : Nat
  dotTime   : Nat
  bank0     : List Nat
  bank1     : List Nat
  bankSel   : Nat
  response  : List Nat
  frame     : FrameSettings
  sheet     : SheetSettings
  deriving DecidableEq, Repr

/-- R92 to R95: the geometry of a page on a layout, lengths in nanometres. -/
structure Geometry where
  width  : Nat
  height : Nat
  scale  : Nat
  pitch  : Nat
  ox     : Nat
  oy     : Nat
  deriving DecidableEq, Repr

/-! ## Frame Writer (chapter 6) -/

/-- R115: a frame in progress: a frame of the sheet by number, or the title. -/
inductive Site
  | frame (n : Nat)
  | title
  deriving DecidableEq, Repr

/-- R115: the writer state. -/
inductive WriterMode
  | idle | moving | writing | paused | held
  deriving DecidableEq, Repr

/-- R122, R145: within WRITING, the next line waits for the beam, its dots are written, or its retrace runs. -/
inductive LinePhase
  | due | dots | retrace
  deriving DecidableEq, Repr

/-- R120, R123, R128: what a sample that the Writer waits for is taken for. -/
inductive SampleKind
  | start | retrace | resume
  deriving DecidableEq, Repr

/-- R127: the pause timer: the time it measures from and the limit in seconds that it runs to. -/
structure PauseTimer where
  since : Nat
  limit : Nat
  deriving DecidableEq, Repr

/-- The Frame Writer. -/
structure Writer where
  mode      : WriterMode
  /-- The frame in progress. -/
  site      : Option Site
  /-- The line counter. -/
  line      : Nat
  /-- The reading latched for the line. -/
  lineP     : Option Nat
  phase     : LinePhase
  /-- The pulse widths of the line whose dots are being written, column 0 first; empty while the laser is off. -/
  pulses    : List Nat
  /-- The measurement the Writer waits for, if any. -/
  sample    : Option SampleKind
  pause     : Option PauseTimer
  /-- The report under construction. -/
  report    : Option Report
  /-- The geometry of the frame in progress. -/
  geometry  : Geometry
  /-- The imprint text of the frame in progress, if it carries one. -/
  imprint   : Option Text
  /-- The drift limit taken at the frame's start, and the threshold computed from it. -/
  drift     : Nat
  threshold : Nat
  /-- When the line's dots began, and when its retrace began. -/
  lineStart : Nat
  retraceStart : Nat
  deriving DecidableEq, Repr

/-! ## Beam Monitor (chapter 7) -/

/-- R136: the beam state. -/
inductive BeamState
  | unknown | inWindow | outLow | outHigh
  deriving DecidableEq, Repr

/-- R137: who asks for a measurement. -/
inductive Requester
  | writer
  | port (p : Port)
  deriving DecidableEq, Repr

/-- The Beam Monitor. -/
structure BeamUnit where
  state    : BeamState
  floorIndex : Nat
  drift    : Nat
  /-- The requesters waiting for the next measurement. -/
  waiting  : List Requester
  /-- The measurement in flight: when it began. -/
  inFlight : Option Nat
  /-- The requesters that the measurement in flight will answer. -/
  serving  : List Requester
  /-- 1.4: the last beam reading, if there has been one since the reset. -/
  last     : Option Nat
  deriving DecidableEq, Repr

/-! ## Film Transport (chapter 8) -/

/-- R146: the film state. -/
inductive FilmState
  | empty | loading | loaded | unloading
  deriving DecidableEq, Repr

/-- R154: the place of a site on the sheet: the title band, or the top-left corner of a cell in micrometres
from the top-left corner of the grid. -/
inductive Place
  | title
  | cell (x y : Nat)
  deriving DecidableEq, Repr

/-- R146: the stage position. -/
inductive StagePosition
  | home
  | atSite (place : Place)
  | moving
  | homing
  | lost
  deriving DecidableEq, Repr

/-- R147: an operation of the transport. A stage move is `live` while the Writer waits for its arrival (R121). -/
inductive Operation
  | leaderIn
  | leaderOut
  | opening
  | finishing
  | stageMove (place : Place) (live : Bool)
  | homing
  deriving DecidableEq, Repr

/-- R147: the motion in progress and the start of its timer. -/
structure Motion where
  op    : Operation
  since : Nat
  deriving DecidableEq, Repr

/-- The Film Transport. -/
structure Transport where
  film     : FilmState
  count    : Nat
  lot      : Text
  factor   : Nat
  stage    : StagePosition
  motion   : Option Motion
  queue    : List Operation
  /-- The recovery record: the re-home flag and the interrupted operation. -/
  rehome   : Bool
  heldOp   : Option Operation
  /-- R157: the gate should hold the sheet clamped, and it does. -/
  gateDue  : Bool
  clamped  : Bool
  deriving DecidableEq, Repr

end Sys2Proof.Machine
end

