-- ==== Sys2Proof/Machine/Defaults.lean ====
section
/-! DEFINITION. The default tables and values that power-on and device reset load. -/

namespace Sys2Proof.Machine

/-- The same value for every port. -/
def everyPort {α : Type} (x : α) : PerPort α := ⟨x, x, x, x⟩

/-- R71: the block memory is 2048 blocks of 16,384 bytes. -/
def blockCount : Nat := 2048

/-- R71: the bytes of a block. -/
def blockBytes : Nat := 16384

/-- R4: the default layout table. -/
def defaultLayouts : List Layout :=
  [⟨5, 12, 1, 24, 11000, 16500, .bottomLeft⟩,
   ⟨8, 16, 2, 36, 8600, 10400, .bottomLeft⟩,
   ⟨10, 20, 2, 42, 6900, 8200, .bottomLeft⟩,
   ⟨4, 8, 1, 16, 17800, 21000, .bottomRight⟩]

/-- R91: the default tone map, entry i = 17 × i. -/
def defaultTone : List Nat := (List.range 16).map (17 * ·)

/-- R91: the default density curve, entry t = 100 + floor(t × 1200 / 255). -/
def defaultCurve : List Nat := (List.range 256).map fun t => 100 + t * 1200 / 255

/-- R102: the default film response table. -/
def defaultResponse : List Nat :=
  [0, 150, 330, 540, 790, 1080, 1420, 1810, 2260, 2770, 3350, 4000, 4730]
    ++ [5540, 6430, 7380, 8370, 9400, 10600, 11950, 13450, 15100, 16900, 18900, 21300, 24000]

/-- R91: the frame-scope settings at their defaults. -/
def defaultFrameSettings : FrameSettings :=
  { gain := 200, dotTime := 80, glyphTone := 0, cellTone := 128, tone := defaultTone }

/-- R91: the sheet-scope settings at their defaults. -/
def defaultSheetSettings : SheetSettings := { bank := 0, response := defaultResponse, lot := 1024 }

/-- R91: the Dose Unit after power-on and device reset. -/
def defaultDose : DoseUnit :=
  { tones := everyPort defaultTone, glyphTone := 0, cellTone := 128, gain := 200, dotTime := 80
    bank0 := defaultCurve, bank1 := defaultCurve, bankSel := 0, response := defaultResponse
    frame := defaultFrameSettings, sheet := defaultSheetSettings }

/-- R174, R176, R180, R183, R184: a port after power-on and device reset, with its class from the straps. -/
def defaultPort (cls : PortClass) : PortRec :=
  { cls := cls, up := false, busy := none, sent := [], notices := [], overrun := false
    mask := BitVec.allOnes 10, quiet := none }

/-- R28, R33: the Document Queue Unit after power-on and device reset. -/
def defaultDocs : DocUnit := { table := [], queues := everyPort ⟨[], 0⟩ }

/-- R71, R72, R73, R77, R83: the Image Store after power-on and device reset, over the memory's bytes. -/
def defaultStore (memory : List Host.Cell) : Store :=
  { memory := memory, blockMap := List.replicate blockCount none, freeList := List.range blockCount, pages := []
    held := everyPort 0, quota := everyPort 512, wait := none, writes := [] }

/-- R1, R4, R9, R14, R16, R17, R18, R20, R21, R48, R55: the Sheet Composer after power-on and device reset,
over the value of the serial cell. -/
def defaultComposer (cell : Nat) : Composer :=
  { sheet := .unloaded, halts := [], exhausted := false, layouts := defaultLayouts, nextLayout := 0
    run := none, pointer := .a, heldFlags := everyPort false, retakes := []
    marks := everyPort false, pendingMarks := everyPort false, group := everyPort false
    nextSerial := cell + 1, greatest := cell, cell := cell, write := .none
    pauseLimit := 10, completionLimit := 300, ageLimit := 1200, starveClose := true
    age := none, completion := none, firstGrant := none, advanced := false, finishDue := false }

/-- The geometry held while no frame is in progress. -/
def noGeometry : Geometry := ⟨0, 0, 0, 0, 0, 0⟩

/-- R115: the Frame Writer with no frame in progress, as after power-on and device reset. -/
def idleWriter (mode : WriterMode) : Writer :=
  { mode := mode, site := none, line := 0, lineP := none, phase := .due, pulses := [], sample := none, pause := none
    report := none, geometry := noGeometry, imprint := none, drift := 0, threshold := 0, lineStart := 0
    retraceStart := 0 }

/-- R136: the Beam Monitor after power-on and device reset. -/
def defaultBeam : BeamUnit :=
  { state := .unknown, floorIndex := 10, drift := 13, waiting := [], inFlight := none, serving := [], last := none }

/-- R146, R155: the Film Transport after power-on and device reset at a time: the reset homing has begun. -/
def defaultTransport (now : Nat) : Transport :=
  { film := .empty, count := 0, lot := List.replicate 8 0x20#8, factor := 1024, stage := .homing
    motion := some ⟨.homing, now⟩, queue := [], rehome := false, heldOp := none, gateDue := false, clamped := false }

/-- R160, R172: the Index Builder after power-on and device reset. -/
def defaultIndex : IndexUnit := { current := none, ring := [], template := [], rendered := none }

end Sys2Proof.Machine
end

