-- ==== Sys2Proof/Machine/State.lean ====
section
/-! DEFINITION. The state of the whole part, the reasons a step can stop, and the state after reset. -/

namespace Sys2Proof.Machine

/-- Everything the spec gives the part, block by block (1.4), the commands that wait, and two fields of the
model's own: the clock that the timers are measured with, and the counter of free choices. -/
structure State where
  /-- The model's clock in ticks of 10 ns (1.7). -/
  now     : Nat
  /-- The model's counter of free choices taken; each takes a fresh value of Config. -/
  choices : Nat
  /-- The commands that wait, first in first out. -/
  pending : List Instr
  ports   : PerPort PortRec
  docs    : DocUnit
  store   : Store
  comp    : Composer
  dose    : DoseUnit
  writer  : Writer
  beam    : BeamUnit
  film    : Transport
  index   : IndexUnit
  deriving DecidableEq, Repr

/-- Why a step stops with a fault. -/
inductive Fault
  /-- A row map names a block or a byte outside the 2048 blocks of the block memory (R71). Raised by
  ROWS_WRITTEN, LINE_END and MEASUREMENT_COMPLETE in states where a page's row map is not one that DEFINE PAGE
  made; no run from reset reaches such a state. Safe: the part has no such address. -/
  | noSuchBlock
  deriving DecidableEq, Repr

/-- Why a step is refused. -/
inductive Refusal
  /-- A command of the table that has no meaning yet. No arm of `exec` answers it: every row is modelled. Safe. -/
  | notModelled (mnemonic : String)
  deriving DecidableEq, Repr

/-- The part right after power-on and device reset (R1, 1.14), given what outlives the reset: the clock, the
counter of choices, the queue of commands, the bytes of the block memory and the serial cell; and the straps. -/
def State.afterReset (now choices : Nat) (pending : List Instr) (memory : List Host.Cell) (cell : Nat)
    (straps : PerPort PortClass) : State :=
  { now := now, choices := choices, pending := pending
    ports := ⟨defaultPort straps.a, defaultPort straps.b, defaultPort straps.c, defaultPort straps.d⟩
    docs := defaultDocs, store := defaultStore memory, comp := defaultComposer cell, dose := defaultDose
    writer := idleWriter .idle, beam := defaultBeam, film := defaultTransport now, index := defaultIndex }

/-- The machine right after reset: a part as delivered (R9: the cell holds 0) with no command waiting. The class
of each port is strapped outside the part; FEEDER stands here (log entry 4). -/
def State.reset : State := State.afterReset 0 0 [] [] 0 (everyPort .feeder)

end Sys2Proof.Machine
end

