-- ==== Sys2Proof/Machine/Wire.lean ====
section
/-! DEFINITION. What stands on the link byte by byte: the frame check and the frames (R175), the status values
(R178), the encodings of fields (R179) and of notices (R181). -/

namespace Sys2Proof.Machine

/-! ## Numbers, texts and lists (R179) -/

/-- R179: a number of one byte. -/
def u8 (n : Nat) : List Byte := [BitVec.ofNat 8 n]

/-- R179: a number of two bytes, low byte first. -/
def u16 (n : Nat) : List Byte := [BitVec.ofNat 8 n, BitVec.ofNat 8 (n / 256)]

/-- R179: a number of four bytes, low byte first. -/
def u32 (n : Nat) : List Byte :=
  [BitVec.ofNat 8 n, BitVec.ofNat 8 (n / 256), BitVec.ofNat 8 (n / 65536), BitVec.ofNat 8 (n / 16777216)]

/-- A flag as one byte, 1 when set (R182 codes the overrun flag so). -/
def flag (b : Bool) : List Byte := u8 b.toNat

/-- R179: a text of varying length: a length byte and the bytes. -/
def textField (t : Text) : List Byte := u8 t.length ++ t

/-- R179: a value that may be absent. -/
def optField {α : Type} (enc : α → List Byte) : Option α → List Byte
  | some x => u8 1 ++ enc x
  | none => u8 0

/-- R179: a list of at most 255 items: a count byte and the items in order. -/
def listField {α : Type} (enc : α → List Byte) (l : List α) : List Byte := u8 l.length ++ l.flatMap enc

/-! ## Codes of named values (R179, R181; log entry 21) -/

/-- R177, R179: ports A to D as 0 to 3. -/
def portCode : Port → Nat
  | .a => 0 | .b => 1 | .c => 2 | .d => 3

/-- R179: FEEDER 0, BUREAU 1. -/
def classCode : PortClass → Nat
  | .feeder => 0 | .bureau => 1

/-- R179: a set of ports as bits 0 to 3 for A to D. -/
def portSetCode (x : PerPort Bool) : Nat := x.a.toNat + 2 * x.b.toNat + 4 * x.c.toNat + 8 * x.d.toNat

/-- R178: the value of a status byte. -/
def statusCode : Status → Nat
  | .ok => 0 | .badFrame => 1 | .busy => 2 | .unknownRequest => 3 | .notPermitted => 4 | .badHandle => 5
  | .notOwner => 6 | .badValue => 7 | .outOfOrder => 8 | .storeFull => 9 | .overQuota => 10 | .tableFull => 11
  | .queueFull => 12 | .inUse => 13 | .tooLate => 14 | .tooLarge => 15 | .wrongState => 16 | .noFilm => 17
  | .bankActive => 18

/-- R181: the code of a halt cause. -/
def haltCode : HaltCause → Nat
  | .manual => 0 | .beam => 1 | .stage => 2 | .transport => 3 | .serial => 4

/-- R181: the code of a spoil cause. -/
def causeCode : SpoilCause → Nat
  | .beam => 0 | .stage => 1 | .pause => 2 | .abort => 3

/-- R181: the code of what followed a spoil. -/
def spoilOutcomeCode : SpoilOutcome → Nat
  | .retakeAdded => 0 | .pageLost => 1 | .neither => 2

/-- R181: the code of an entry kind. -/
def entryKindCode : EntryKind → Nat
  | .normal => 0 | .retake => 1

/-- R181: the code of a rejection reason. -/
def reasonCode : Reason → Nat
  | .unfit => 0 | .tooLong => 1

/-- R181: the code of a final state in DOC_FINAL (a state that is not final has none and takes 5). -/
def finalCode : DocState → Nat
  | .done => 0 | .damaged => 1 | .incomplete => 2 | .cancelled => 3 | .rejected => 4
  | .queued | .placing | .placed => 5

/-- R179: the code of a document state: that of R181 for a final state, for the others the place in R30 (log entry
21). -/
def docStateCode : DocState → Nat
  | .queued => 0 | .placing => 1 | .placed => 2 | .done => 0 | .damaged => 1 | .incomplete => 2 | .cancelled => 3
  | .rejected => 4

/-- R29, R179: KEEP 0, FLOW 1. -/
def docClassCode : DocClass → Nat
  | .keep => 0 | .flow => 1

/-- R31, R179: NONE 0, EXPOSED 1, LOST 2. -/
def pageOutcomeCode : PageOutcome → Nat
  | .none => 0 | .exposed => 1 | .lost => 2

/-- R73, R179: RECEIVING 0, COMPLETE 1. -/
def pageStateCode : PageState → Nat
  | .receiving => 0 | .complete => 1

/-- R75: the code of a rotation. -/
def rotationCode : Rotation → Nat
  | .r0 => 0 | .r90 => 1 | .r180 => 2 | .r270 => 3

/-- R1, R179: the place of a sheet state in the table of R1. -/
def sheetStateCode : SheetState → Nat
  | .unloaded => 0 | .idle => 1 | .opening => 2 | .open => 3 | .closing => 4 | .indexing => 5 | .finishing => 6

/-- R136, R179: the place of a beam state in the table of R136. -/
def beamStateCode : BeamState → Nat
  | .unknown => 0 | .inWindow => 1 | .outLow => 2 | .outHigh => 3

/-- R179: the code of a sheet status: that of R181 for FINISHED and ABORTED, for the others the place in R161 (log
entry 21). -/
def sheetStatusCode : SheetStatus → Nat
  | .opened => 0 | .closed => 1 | .finished => 0 | .aborted => 1

/-- R161, R179: the place of a close reason in the list of R161. -/
def closeReasonCode : CloseReason → Nat
  | .full => 0 | .starved => 1 | .age => 2 | .barrier => 3 | .forced => 4

/-- R7, R179: PENDING 0, EXPOSED 1, SPOILED 2. -/
def titleStatusCode : TitleStatus → Nat
  | .pending => 0 | .exposed => 1 | .spoiled => 2

/-- R164, R179: the place of an entry status in the lists of R164. -/
def entryStatusCode : EntryStatus → Nat
  | .void => 0 | .incomplete => 1 | .partlySpoiled => 2 | .exposed => 3 | .placed => 4

/-- R8, R179: DATA 0, RETAKE 1, INDEX 2. -/
def frameKindCode : FrameKind → Nat
  | .data => 0 | .retake => 1 | .index => 2

/-- R8, R179: the code of a frame state; its order is the model's choice (log entry 21). -/
def frameStateCode : FrameState → Nat
  | .free => 0 | .placed => 1 | .ready => 2 | .exposing => 3 | .paused => 4 | .exposed => 5 | .spoiled => 6
  | .void => 7

/-- R20, R179: ON 0, OFF 1, their places in R20. -/
def onOffCode (on : Bool) : Nat := if on then 0 else 1

/-! ## Notices (R181) -/

/-- R181: the code of a notice's kind. -/
def Notice.code : Notice → Nat
  | .placed .. => 1 | .rejected .. => 2 | .rowsWanted .. => 3 | .frameSpoiled .. => 4 | .docFinal .. => 5
  | .sheetOpened .. => 6 | .sheetFinished .. => 7 | .halted .. => 8 | .resumed => 9 | .filmLow .. => 10

/-- R54, R181: a run as first frame and frame count. -/
def runField (r : Run) : List Byte := u8 r.first ++ u8 r.count

/-- R181: the field bytes of a notice. -/
def Notice.fields : Notice → List Byte
  | .placed serial doc kind num firstPage pageCount runs spSerial spFrame =>
      u32 serial ++ u16 doc ++ u8 (entryKindCode kind) ++ u8 num ++ u8 firstPage ++ u8 pageCount
        ++ listField runField runs
        ++ (match kind with
            | .normal => []
            | .retake => u32 spSerial ++ u8 spFrame)
  | .rejected doc reason page => u16 doc ++ u8 (reasonCode reason) ++ u8 page
  | .rowsWanted page row received => u16 page ++ u16 row ++ u16 received
  | .frameSpoiled serial frame doc page cause outcome =>
      u32 serial ++ u8 frame ++ u16 doc ++ u8 page ++ u8 (causeCode cause) ++ u8 (spoilOutcomeCode outcome)
  | .docFinal doc state reason exposed lost =>
      u16 doc ++ u8 (finalCode state) ++ u8 (match reason with | some r => reasonCode r | none => 0)
        ++ u8 exposed ++ u8 lost
  | .sheetOpened serial layout => u32 serial ++ u8 layout
  | .sheetFinished serial aborted => u32 serial ++ u8 aborted.toNat
  | .halted cause => u8 (haltCode cause)
  | .resumed => []
  | .filmLow count lot => u16 count ++ lot

/-- R181: a notice record: kind byte, length byte, fields. -/
def Notice.bytes (n : Notice) : List Byte := u8 n.code ++ u8 n.fields.length ++ n.fields

/-! ## The frame check and the frames (R175) -/

/-- R175: one bit enters the check register, most significant bit first. -/
def crcBit (reg : BitVec 16) (bit : Bool) : BitVec 16 :=
  if reg.msb != bit then (reg <<< 1) ^^^ 0x1021#16 else reg <<< 1

/-- R175: one byte enters the check register, most significant bit first. -/
def crcByte (reg : BitVec 16) (b : Byte) : BitVec 16 :=
  [7, 6, 5, 4, 3, 2, 1, 0].foldl (fun r i => crcBit r (b.getLsbD i)) reg

/-- R175: the check over the bytes of a frame before it. -/
def crc (bytes : List Byte) : BitVec 16 := bytes.foldl crcByte 0xFFFF#16

/-- R175: a frame's bytes followed by its check, low byte first. -/
def withCheck (bytes : List Byte) : List Byte := bytes ++ u16 (crc bytes).toNat

/-- R175: a request frame. -/
def requestFrame (kind tag : Nat) (body : List Byte) : List Byte :=
  withCheck (u8 kind ++ u8 tag ++ u16 body.length ++ body)

/-- R175: a reply frame. Its kind byte is already the request's kind + 0x80. -/
def Reply.frame (r : Reply) : List Byte :=
  withCheck (u8 r.kind ++ u8 r.tag ++ u8 (statusCode r.status) ++ u16 r.body.length ++ r.body)

/-- R177: the kind codes of the requests. -/
inductive Kind
  | selectLayout | setLayout | closeSheet | halt | resume | abortSheet | setLimits | setCloseGroup | setSerial
  | submitDocument | batchMark | cancelDocument | queryDocument | definePage | putRows | queryPage | dropPage
  | setQuota | setToneMap | setOverlayMap | writeCurve | selectCurveBank | setFilmResponse | setWriter
  | measureBeam | setBeamWindow | loadFilm | unloadFilm | readIndex | readFrame | setTitle | fetchNotices
  | setNoticeMask | attentionDone | readStatus | portReset
  deriving DecidableEq, Repr

/-- R177: the kind code of a request. -/
def Kind.code : Kind → Nat
  | .selectLayout => 0x01 | .setLayout => 0x02 | .closeSheet => 0x03 | .halt => 0x04 | .resume => 0x05
  | .abortSheet => 0x06 | .setLimits => 0x07 | .setCloseGroup => 0x08 | .setSerial => 0x09
  | .submitDocument => 0x0A | .batchMark => 0x0B | .cancelDocument => 0x0C | .queryDocument => 0x0D
  | .definePage => 0x0E | .putRows => 0x0F | .queryPage => 0x10 | .dropPage => 0x11 | .setQuota => 0x12
  | .setToneMap => 0x13 | .setOverlayMap => 0x14 | .writeCurve => 0x15 | .selectCurveBank => 0x16
  | .setFilmResponse => 0x17 | .setWriter => 0x18 | .measureBeam => 0x19 | .setBeamWindow => 0x1A
  | .loadFilm => 0x1B | .unloadFilm => 0x1C | .readIndex => 0x1D | .readFrame => 0x1E | .setTitle => 0x1F
  | .fetchNotices => 0x20 | .setNoticeMask => 0x21 | .attentionDone => 0x22 | .readStatus => 0x23
  | .portReset => 0x24

/-- R177: the kind needs a BUREAU port. -/
def Kind.bureauOnly : Kind → Bool
  | .submitDocument | .batchMark | .cancelDocument | .queryDocument | .definePage | .putRows | .queryPage
  | .dropPage | .setToneMap | .readIndex | .readFrame | .fetchNotices | .setNoticeMask | .attentionDone
  | .readStatus | .portReset => false
  | .selectLayout | .setLayout | .closeSheet | .halt | .resume | .abortSheet | .setLimits | .setCloseGroup
  | .setSerial | .setQuota | .setOverlayMap | .writeCurve | .selectCurveBank | .setFilmResponse | .setWriter
  | .measureBeam | .setBeamWindow | .loadFilm | .unloadFilm | .setTitle => true

/-- R177: the request kinds in the order of their codes. -/
def allKinds : List Kind :=
  [.selectLayout, .setLayout, .closeSheet, .halt, .resume, .abortSheet, .setLimits, .setCloseGroup, .setSerial,
   .submitDocument, .batchMark, .cancelDocument, .queryDocument, .definePage, .putRows, .queryPage, .dropPage,
   .setQuota]
  ++ [.setToneMap, .setOverlayMap, .writeCurve, .selectCurveBank, .setFilmResponse, .setWriter, .measureBeam,
   .setBeamWindow, .loadFilm, .unloadFilm, .readIndex, .readFrame, .setTitle, .fetchNotices, .setNoticeMask,
   .attentionDone, .readStatus, .portReset]

/-- R177: the request kind of a code. -/
def kindOfCode (n : Nat) : Option Kind := allKinds.find? (·.code == n)

end Sys2Proof.Machine
end

