-- ==== Sys2Proof/Decode.lean ====
section
/-! DEFINITION. From bytes on a link to a command, and from a request to its frame (R175 to R177, R179). The table
gives no row any bits, so no word spells a command (log entry 29). -/

namespace Sys2Proof

/-- The command that a word of `nbits` bits spells by the table's bits: none, as no row of the table has bits. -/
def decodeTableWord (_nbits _w : Nat) : Option Instr := none

namespace Machine

/-! ## Receiving (R176, R177) -/

/-- R179: a number of two bytes, low byte first. -/
def word2 (a b : Byte) : Nat := a.toNat + 256 * b.toNat

/-- R179: a number of four bytes, low byte first. -/
def word4 (a b c d : Byte) : Nat := a.toNat + 256 * b.toNat + 65536 * c.toNat + 16777216 * d.toNat

/-- R179: numbers of two bytes, one after another; none where a byte is left over. -/
def words : List Byte → Option (List Nat)
  | [] => some []
  | [_] => none
  | a :: b :: l => (words l).map (word2 a b :: ·)

/-- R179: a flag from its byte. -/
def flagOf (b : Byte) : Option Bool := if b = 0#8 then some false else if b = 1#8 then some true else none

/-- R179: ON is 0, OFF is 1. -/
def onOff (b : Byte) : Option Bool := (flagOf b).map (!·)

/-- R179: a text of varying length at the head of a body, and what follows it. -/
def splitText : List Byte → Option (Text × List Byte)
  | [] => none
  | n :: l => if n.toNat ≤ l.length then some (l.take n.toNat, l.drop n.toNat) else none

/-- A request with an empty body. -/
def bare (i : Instr) (body : List Byte) : Option Instr := if body = [] then some i else none

/-- R37, R179: the body of SUBMIT DOCUMENT. -/
def parseSubmit (p : Port) (tag : Nat) (body : List Byte) : Option Instr :=
  match splitText body with
  | some (key, cls :: stream :: count :: l) =>
    match flagOf stream, words l with
    | some st, some pages => some (.submitDocument p tag key cls.toNat st count.toNat pages)
    | _, _ => none
  | _ => none

/-- R173, R179: the body of SET TITLE. -/
def parseTitle (p : Port) (tag : Nat) (body : List Byte) : Option Instr :=
  match splitText body with
  | some (text, []) => some (.setTitle p tag text)
  | _ => none

/-- R110, R179: the body of WRITE CURVE. -/
def parseCurve (p : Port) (tag : Nat) : List Byte → Option Instr
  | bank :: start :: count :: l => (words l).map (.writeCurve p tag bank.toNat start.toNat count.toNat)
  | _ => none

/-- R112, R179: the body of SET FILM RESPONSE. -/
def parseResponse (p : Port) (tag : Nat) (body : List Byte) : Option Instr :=
  if body.length = 52 then (words body).map (.setFilmResponse p tag) else none

/-- R109, R179: the body of SET TONE MAP. -/
def parseTone (p : Port) (tag : Nat) : List Byte → Option Instr
  | port :: l => if l.length = 16 then some (.setToneMap p tag port.toNat (l.map (·.toNat))) else none
  | [] => none

/-- R79: the body of PUT ROWS. -/
def parseRows (p : Port) (tag : Nat) : List Byte → Option Instr
  | h0 :: h1 :: f0 :: f1 :: c0 :: c1 :: data => some (.putRows p tag (word2 h0 h1) (word2 f0 f1) (word2 c0 c1) data)
  | _ => none

/-- R148, R179: the body of LOAD FILM. -/
def parseLoad (p : Port) (tag : Nat) : List Byte → Option Instr
  | [c0, c1, l0, l1, l2, l3, l4, l5, l6, l7, f0, f1] =>
    some (.loadFilm p tag (word2 c0 c1) [l0, l1, l2, l3, l4, l5, l6, l7] (word2 f0 f1))
  | _ => none

/-- R20, R179: the body of SET LIMITS. -/
def parseLimits (p : Port) (tag : Nat) : List Byte → Option Instr
  | [a, c0, c1, g0, g1, st] => (onOff st).map (.setLimits p tag a.toNat (word2 c0 c1) (word2 g0 g1))
  | _ => none

/-- R179: a body of one byte. -/
def parse1 (f : Nat → Instr) : List Byte → Option Instr
  | [a] => some (f a.toNat)
  | _ => none

/-- R179: a body of one number of two bytes. -/
def parse2 (f : Nat → Instr) : List Byte → Option Instr
  | [a, b] => some (f (word2 a b))
  | _ => none

/-- R179: the request that a body of a kind spells; none where the body has not the form of its kind. -/
def parseBody (p : Port) (tag : Nat) (k : Kind) (body : List Byte) : Option Instr :=
  match k with
  | .selectLayout => parse1 (.selectLayout p tag) body
  | .setLayout =>
    match body with
    | [e, r, c, x, d, w0, w1, h0, h1, im] =>
      some (.setLayout p tag e.toNat r.toNat c.toNat x.toNat d.toNat (word2 w0 w1) (word2 h0 h1) im.toNat)
    | _ => none
  | .closeSheet => bare (.closeSheet p tag) body
  | .halt => bare (.halt p tag) body
  | .resume => bare (.resume p tag) body
  | .abortSheet => bare (.abortSheet p tag) body
  | .setLimits => parseLimits p tag body
  | .setCloseGroup => parse1 (.setCloseGroup p tag) body
  | .setSerial =>
    match body with
    | [a, b, c, d] => some (.setSerial p tag (word4 a b c d))
    | _ => none
  | .submitDocument => parseSubmit p tag body
  | .batchMark => bare (.batchMark p tag) body
  | .cancelDocument => parse2 (.cancelDocument p tag) body
  | .queryDocument => parse2 (.queryDocument p tag) body
  | .definePage =>
    match body with
    | [w0, w1, h0, h1, d, s0, s1, rot] =>
      some (.definePage p tag (word2 w0 w1) (word2 h0 h1) d.toNat (word2 s0 s1) rot.toNat)
    | _ => none
  | .putRows => parseRows p tag body
  | .queryPage => parse2 (.queryPage p tag) body
  | .dropPage => parse2 (.dropPage p tag) body
  | .setQuota =>
    match body with
    | [q, v0, v1] => some (.setQuota p tag q.toNat (word2 v0 v1))
    | _ => none
  | .setToneMap => parseTone p tag body
  | .setOverlayMap =>
    match body with
    | [g, c] => some (.setOverlayMap p tag g.toNat c.toNat)
    | _ => none
  | .writeCurve => parseCurve p tag body
  | .selectCurveBank => parse1 (.selectCurveBank p tag) body
  | .setFilmResponse => parseResponse p tag body
  | .setWriter =>
    match body with
    | [g0, g1, t0, t1] => some (.setWriter p tag (word2 g0 g1) (word2 t0 t1))
    | _ => none
  | .measureBeam => bare (.measureBeam p tag) body
  | .setBeamWindow =>
    match body with
    | [f, d] => some (.setBeamWindow p tag f.toNat d.toNat)
    | _ => none
  | .loadFilm => parseLoad p tag body
  | .unloadFilm => bare (.unloadFilm p tag) body
  | .readIndex =>
    match body with
    | [a, b, c, d, s0, s1] => some (.readIndex p tag (word4 a b c d) (word2 s0 s1))
    | _ => none
  | .readFrame =>
    match body with
    | [a, b, c, d, n] => some (.readFrame p tag (word4 a b c d) n.toNat)
    | _ => none
  | .setTitle => parseTitle p tag body
  | .fetchNotices => bare (.fetchNotices p tag) body
  | .setNoticeMask => parse2 (.setNoticeMask p tag) body
  | .attentionDone => bare (.attentionDone p tag) body
  | .readStatus => bare (.readStatus p tag) body
  | .portReset => bare (.portReset p tag) body

/-- R176, test 1: the frame holds 6 + n bytes, n is at most 16,400, and the check matches. -/
def frameSound (bytes : List Byte) : Bool :=
  match bytes with
  | _ :: _ :: n0 :: n1 :: _ =>
    decide (bytes.length = 6 + word2 n0 n1) && decide (word2 n0 n1 ≤ 16400)
      && decide (bytes.drop (bytes.length - 2) = u16 (crc (bytes.take (bytes.length - 2))).toNat)
  | _ => false

/-- R175: the body of a sound frame. -/
def frameBodyOf (bytes : List Byte) : List Byte := (bytes.take (bytes.length - 2)).drop 4

/-- R176, R177: the command that a received frame becomes. A sound frame whose body has not the form of its kind
becomes `unknownRequest` with its kind (log entry 22). -/
def receive (p : Port) (bytes : List Byte) : Option Instr :=
  if frameSound bytes then
    match bytes with
    | kind :: tag :: _ =>
      match kindOfCode kind.toNat with
      | some k => some ((parseBody p tag.toNat k (frameBodyOf bytes)).getD (.unknownRequest p tag.toNat kind.toNat))
      | none => some (.unknownRequest p tag.toNat kind.toNat)
    | _ => none
  else some (.badFrame p)

/-! ## Sending: the frame of a request -/

/-- R175, R177: the port, the kind, the tag and the body of a request; none for a command that is no request. -/
def requestOf : Instr → Option (Port × Kind × Nat × List Byte)
  | .selectLayout p t e => some (p, .selectLayout, t, u8 e)
  | .setLayout p t e r c x d w h im =>
      some (p, .setLayout, t, u8 e ++ u8 r ++ u8 c ++ u8 x ++ u8 d ++ u16 w ++ u16 h ++ u8 im)
  | .closeSheet p t => some (p, .closeSheet, t, [])
  | .halt p t => some (p, .halt, t, [])
  | .resume p t => some (p, .resume, t, [])
  | .abortSheet p t => some (p, .abortSheet, t, [])
  | .setLimits p t a c g st => some (p, .setLimits, t, u8 a ++ u16 c ++ u16 g ++ u8 (onOffCode st))
  | .setCloseGroup p t g => some (p, .setCloseGroup, t, u8 g)
  | .setSerial p t v => some (p, .setSerial, t, u32 v)
  | .submitDocument p t key cls st n pages =>
      some (p, .submitDocument, t, textField key ++ u8 cls ++ flag st ++ u8 n ++ pages.flatMap u16)
  | .batchMark p t => some (p, .batchMark, t, [])
  | .cancelDocument p t h => some (p, .cancelDocument, t, u16 h)
  | .queryDocument p t h => some (p, .queryDocument, t, u16 h)
  | .definePage p t w h d s r => some (p, .definePage, t, u16 w ++ u16 h ++ u8 d ++ u16 s ++ u8 r)
  | .putRows p t h f c data => some (p, .putRows, t, u16 h ++ u16 f ++ u16 c ++ data)
  | .queryPage p t h => some (p, .queryPage, t, u16 h)
  | .dropPage p t h => some (p, .dropPage, t, u16 h)
  | .setQuota p t q v => some (p, .setQuota, t, u8 q ++ u16 v)
  | .setToneMap p t q m => some (p, .setToneMap, t, u8 q ++ m.flatMap u8)
  | .setOverlayMap p t g c => some (p, .setOverlayMap, t, u8 g ++ u8 c)
  | .writeCurve p t b st n es => some (p, .writeCurve, t, u8 b ++ u8 st ++ u8 n ++ es.flatMap u16)
  | .selectCurveBank p t b => some (p, .selectCurveBank, t, u8 b)
  | .setFilmResponse p t f => some (p, .setFilmResponse, t, f.flatMap u16)
  | .setWriter p t g d => some (p, .setWriter, t, u16 g ++ u16 d)
  | .measureBeam p t => some (p, .measureBeam, t, [])
  | .setBeamWindow p t f d => some (p, .setBeamWindow, t, u8 f ++ u8 d)
  | .loadFilm p t n lot f => some (p, .loadFilm, t, u16 n ++ lot ++ u16 f)
  | .unloadFilm p t => some (p, .unloadFilm, t, [])
  | .readIndex p t n st => some (p, .readIndex, t, u32 n ++ u16 st)
  | .readFrame p t n f => some (p, .readFrame, t, u32 n ++ u8 f)
  | .setTitle p t x => some (p, .setTitle, t, textField x)
  | .fetchNotices p t => some (p, .fetchNotices, t, [])
  | .setNoticeMask p t m => some (p, .setNoticeMask, t, u16 m)
  | .attentionDone p t => some (p, .attentionDone, t, [])
  | .readStatus p t => some (p, .readStatus, t, [])
  | .portReset p t => some (p, .portReset, t, [])
  | .powerOn _ | .deviceReset _ | .linkUp _ | .linkDown _ | .badFrame _ | .unknownRequest _ _ _ | .ageTimerExpiry
  | .completionTimerExpiry | .pauseTimerExpiry | .quietTimerExpiry _ | .operationTimeout | .serialWriteComplete _
  | .openingAdvanceComplete | .finishingCutComplete | .leaderInAdvanceComplete | .leaderOutAdvanceComplete
  | .stageArrival | .homingComplete | .measurementComplete _ | .lineEnd | .positionLoss | .gateRelease | .frameStart
  | .grant | .rejection | .retakeUnfit | .tryFailure | .retraceStart | .rowsWritten => none

/-- R175: the frame of a request on the link. -/
def encode (i : Instr) : Option (List Byte) :=
  (requestOf i).map fun x => requestFrame x.2.1.code x.2.2.1 x.2.2.2

end Machine
end Sys2Proof
end

