-- ==== Sys2Proof/Machine/Ops.lean ====
section
/-! DEFINITION. The named operations that every block uses: values per port, tables by handle, the block memory,
replies and notices, the halt list, the records of the sheet in the stage. -/

namespace Sys2Proof

/-- The value of a port. -/
def PerPort.get {α : Type} (x : PerPort α) : Port → α
  | .a => x.a | .b => x.b | .c => x.c | .d => x.d

/-- Replace the value of one port. -/
def PerPort.set {α : Type} (x : PerPort α) (p : Port) (v : α) : PerPort α :=
  match p with
  | .a => { x with a := v }
  | .b => { x with b := v }
  | .c => { x with c := v }
  | .d => { x with d := v }

/-- Apply a function to the value of every port. -/
def PerPort.map {α β : Type} (f : α → β) (x : PerPort α) : PerPort β := ⟨f x.a, f x.b, f x.c, f x.d⟩

/-- The ports in their order A, B, C, D (1.11). -/
def allPorts : List Port := [.a, .b, .c, .d]

/-- The port after a port in the order A, B, C, D, A (R60). -/
def Port.next : Port → Port
  | .a => .b | .b => .c | .c => .d | .d => .a

namespace Machine

/-! ## Tables by handle -/

/-- The record under a handle. -/
def tableGet {α : Type} : Table α → Nat → Option α
  | [], _ => none
  | (k, v) :: t, h => if h = k then some v else tableGet t h

/-- Put a record under a handle, keeping the handles rising. -/
def tablePut {α : Type} : Table α → Nat → α → Table α
  | [], h, x => [(h, x)]
  | (k, v) :: t, h, x =>
    if h < k then (h, x) :: (k, v) :: t else if h = k then (h, x) :: t else (k, v) :: tablePut t h x

/-- Remove the record under a handle. -/
def tableErase {α : Type} : Table α → Nat → Table α
  | [], _ => []
  | (k, v) :: t, h => if h = k then tableErase t h else (k, v) :: tableErase t h

/-- Change the record under a handle, if there is one. -/
def tableModify {α : Type} (f : α → α) : Table α → Nat → Table α
  | [], _ => []
  | (k, v) :: t, h => (if h = k then (k, f v) else (k, v)) :: tableModify f t h

/-- R28, R73: the lowest handle below a limit that is not in use. -/
def tableFree {α : Type} (t : Table α) (limit : Nat) : Option Nat :=
  (List.range limit).find? fun h => (tableGet t h).isNone

/-! ## The block memory (R71) -/

/-- What a byte that nothing has written reads as (log entry 5). -/
def unlistedByte : Byte := 0x00#8

/-- The canonical form of a memory: addresses strictly rising, none listed with the unlisted value. -/
def memoryWf (m : List Host.Cell) : Bool :=
  decide (m.Pairwise (fun x y => x.1 < y.1)) && m.all (fun c => c.2 != unlistedByte)

/-- The byte at an address. -/
def memoryRead : List Host.Cell → Nat → Byte
  | [], _ => unlistedByte
  | (k, v) :: m, a => if a = k then v else memoryRead m a

/-- Store a byte at an address, keeping the canonical form. -/
def memoryWrite : List Host.Cell → Nat → Byte → List Host.Cell
  | [], a, b => if b = unlistedByte then [] else [(a, b)]
  | (k, v) :: m, a, b =>
    if a < k then (if b = unlistedByte then (k, v) :: m else (a, b) :: (k, v) :: m)
    else if a = k then (if b = unlistedByte then m else (a, b) :: m)
    else (k, v) :: memoryWrite m a b

/-- Store consecutive bytes from an address on. -/
def memoryWriteAll : List Host.Cell → Nat → List Byte → List Host.Cell
  | m, _, [] => m
  | m, a, b :: bs => memoryWriteAll (memoryWrite m a b) (a + 1) bs

/-! ## Ports: replies and notices -/

/-- Change the record of one port. -/
def modPort (p : Port) (f : PortRec → PortRec) (s : State) : State :=
  { s with ports := s.ports.set p (f (s.ports.get p)) }

/-- R180: a notice joins the queue, or is lost and sets the overrun flag. -/
def PortRec.raise (n : Notice) (r : PortRec) : PortRec :=
  if r.notices.length < 32 then { r with notices := r.notices ++ [n] } else { r with overrun := true }

/-- R180: raise a notice for one port. -/
def notify (p : Port) (n : Notice) (s : State) : State := modPort p (PortRec.raise n) s

/-- R181: raise a notice for every port, as one event. -/
def notifyAll (n : Notice) (s : State) : State := { s with ports := s.ports.map (PortRec.raise n) }

/-- R151, R181: raise a notice for every BUREAU port. -/
def notifyBureau (n : Notice) (s : State) : State :=
  { s with ports := s.ports.map fun r => if r.cls = .bureau then r.raise n else r }

/-- R175: hand a reply to the link of a port. -/
def sendReply (p : Port) (r : Reply) (s : State) : State := modPort p (fun x => { x with sent := x.sent ++ [r] }) s

/-- R175, R178: answer a request of a kind with a status and a body. -/
def answer (p : Port) (k : Kind) (tag : Nat) (status : Status) (body : List Byte) (s : State) : State :=
  sendReply p ⟨k.code + 0x80, tag, status, body⟩ s

/-- R176: the handler becomes BUSY with a request. -/
def setBusy (p : Port) (r : InFlight) (s : State) : State := modPort p (fun x => { x with busy := some r }) s

/-- R176: the handler returns to IDLE. -/
def setIdle (p : Port) (s : State) : State := modPort p (fun x => { x with busy := none }) s

/-! ## Sets of ports -/

/-- No port. -/
def noPorts : PerPort Bool := everyPort false

/-! ## The records of the sheet in the stage -/

/-- R4: the frame count N of a layout. -/
def Layout.frames (l : Layout) : Nat := l.rows * l.cols

/-- R4: the data frames of a layout, N - K. -/
def Layout.dataFrames (l : Layout) : Nat := l.frames - l.index

/-- R4, R52: the index capacity of a layout, 96 entries for each index frame. -/
def Layout.capacity (l : Layout) : Nat := 96 * l.index

/-- Change the current sheet record, if there is one. -/
def modCurrent (f : SheetRec → SheetRec) (s : State) : State :=
  { s with index := { s.index with current := s.index.current.map f } }

/-- Change one frame record of a sheet record. -/
def SheetRec.modFrame (n : Nat) (f : FrameRec → FrameRec) (r : SheetRec) : SheetRec :=
  { r with frames := r.frames.modify n f }

/-- The frames of the sheet in the stage; none without a sheet. -/
def currentFrames (s : State) : List FrameRec :=
  match s.index.current with
  | some r => r.frames
  | none => []

/-- The frame record of a frame of the sheet in the stage. -/
def frameOf (s : State) (n : Nat) : Option FrameRec := (currentFrames s)[n]?

/-- R48: the numbers of the free data frames of a sheet record, rising. -/
def SheetRec.freeFrames (r : SheetRec) : List Nat :=
  (List.range r.layout.dataFrames).filter fun n =>
    match r.frames[n]? with
    | some f => f.state == .free
    | none => false

/-- R54: the frames that runs name, in the runs' order. -/
def runFrames (runs : List Run) : List Nat := runs.flatMap fun r => (List.range r.count).map (r.first + ·)

/-- R163: the frames that an entry holds. -/
def Entry.frames (e : Entry) : List Nat := runFrames e.runs

/-- R164: the status of an entry, from its mark or from the frames its runs name. -/
def Entry.status (frames : List FrameRec) (e : Entry) : EntryStatus :=
  match e.mark with
  | some .void => .void
  | some .incomplete => .incomplete
  | none =>
    let states := e.frames.map fun n => (frames[n]?).map (·.state)
    if states.contains (some FrameState.spoiled) then .partlySpoiled
    else if states.all (· == some FrameState.exposed) then .exposed
    else .placed

/-! ## The halt list (R21) -/

/-- R21, R116: a cause joins the end of the list, unless it stands there; HALTED goes to every port, and an IDLE
Writer is HELD. -/
def addHalt (c : HaltCause) (s : State) : State :=
  if c ∈ s.comp.halts then s
  else
    let s := { s with comp := { s.comp with halts := s.comp.halts ++ [c] } }
    let s := notifyAll (.halted c) s
    if s.writer.mode = .idle then { s with writer := { s.writer with mode := .held } } else s

/-- R21, R23, R116: a cause leaves the list; with the list empty RESUMED goes to every port and a HELD Writer is
IDLE. -/
def dropHalt (c : HaltCause) (s : State) : State :=
  if c ∈ s.comp.halts then
    let s := { s with comp := { s.comp with halts := s.comp.halts.filter (· != c) } }
    if s.comp.halts = [] then
      let s := notifyAll .resumed s
      if s.writer.mode = .held then { s with writer := { s.writer with mode := .idle } } else s
    else s
  else s

/-- R116: the state of a Writer that has no frame in progress. -/
def restMode (s : State) : WriterMode := if s.comp.halts = [] then .idle else .held

end Machine
end Sys2Proof
end

