-- ==== Sys2Proof/Machine/Operands.lean ====
section
/-! DEFINITION. The operands of requests: the codes that stand for values (R179), clamps and text substitution; and
the tests that a port makes before a request reaches its block (R176). -/

namespace Sys2Proof.Machine

/-- R179: a port letter from its code; none outside A to D. -/
def portOfCode : Nat → Option Port
  | 0 => some .a | 1 => some .b | 2 => some .c | 3 => some .d | _ => none

/-- R37: a document class from its code. -/
def classOfCode : Nat → Option DocClass
  | 0 => some .keep | 1 => some .flow | _ => none

/-- R75: a rotation from its code. -/
def rotationOfCode : Nat → Option Rotation
  | 0 => some .r0 | 1 => some .r90 | 2 => some .r180 | 3 => some .r270 | _ => none

/-- R4, R179: an imprint position from its code. -/
def imprintOfCode : Nat → Option Imprint
  | 0 => some .off | 1 => some .bottomLeft | 2 => some .bottomRight | _ => none

/-- R17, R179: a set of ports from its bits; none where a bit above 3 names a port outside A to D. -/
def portSetOfCode (n : Nat) : Option (PerPort Bool) :=
  if n < 16 then some ⟨n.testBit 0, n.testBit 1, n.testBit 2, n.testBit 3⟩ else none

/-- A value clamped to the nearer bound of a range (R20, R143, R148). -/
def clamp (lo hi n : Nat) : Nat := max lo (min hi n)

/-- R39, R148, R173: a byte outside 0x20 to 0x7E is stored as '?'. -/
def storedChar (b : Byte) : Byte := if 0x20 ≤ b.toNat ∧ b.toNat ≤ 0x7E then b else 0x3F#8

/-- R39, R148, R173: a text as it is stored. -/
def storedText (t : Text) : Text := t.map storedChar

/-- A value lies in a range (inclusive, 1.10). -/
def inRange (lo hi n : Nat) : Bool := decide (lo ≤ n) && decide (n ≤ hi)

/-- The outcome of a command of this part: a next state, or a stop. -/
abbrev Result := Host.Outcome State Fault Refusal

/-- R174, R176: a request on a port. On a DOWN link nothing is received; a BUSY handler answers BUSY; a FEEDER
port's request of a BUREAU kind is answered NOT_PERMITTED; otherwise the block takes the request. -/
def request (p : Port) (k : Kind) (tag : Nat) (s : State) (block : State → State) : Result :=
  let r := s.ports.get p
  if r.up = false then .next s
  else if r.busy.isSome then .next (answer p k tag .busy [] s)
  else if k.bureauOnly ∧ r.cls = .feeder then .next (answer p k tag .notPermitted [] s)
  else .next (block s)

end Sys2Proof.Machine
end

