-- ==== Sys2Proof/Config.lean ====
section
/-! DEFINITION. What the spec leaves open and the part goes on with: free values, as opaque constants with no
body. Nothing in Lean can evaluate one of them, so a statement that is proved holds whatever they are. -/

namespace Sys2Proof.Config

/-- R170: the character generator holds a fixed glyph, 8 dots wide and 12 high, for each code 0x20 to 0x7E.
The spec gives no glyph's dots. `glyph code row col` says whether the dot is marked. Log entry 1. -/
opaque glyph : Nat → Nat → Nat → Bool

/-- R10: a serial write that stops before it ends leaves the cell holding its old value or the new serial.
`brokenWriteKeepsNew n` says which, for the n-th open choice of a run. Log entry 2. -/
opaque brokenWriteKeepsNew : Nat → Bool

/-- R84: when the PUT ROWS that the store is writing is abandoned, some of its bytes may already stand in the block memory
beyond the page's rows received. `bytesLanded n` bounds how many, for the n-th open choice of a run. Log entry 3. -/
opaque bytesLanded : Nat → Nat

end Sys2Proof.Config
end

