-- ==== Sys2Proof/Machine/StoreOps.lean ====
section
/-! DEFINITION. The operations of the Image Store: sizing, row addresses, writing and abandoning rows, dropping
pages (chapter 4). -/

namespace Sys2Proof.Machine

/-- Division of non-negative operands rounded up (1.10). -/
def ceilDiv (a b : Nat) : Nat := (a + b - 1) / b

/-- R76: row bytes of a page of a width and a depth. -/
def rowBytesOf (width depth : Nat) : Nat := ceilDiv (width * depth) 8

/-- R76: rows per block. -/
def rowsPerBlockOf (width depth : Nat) : Nat := blockBytes / rowBytesOf width depth

/-- R76: the blocks a page needs. -/
def blocksOf (width height depth : Nat) : Nat := ceilDiv height (rowsPerBlockOf width depth)

/-- R81: the address of row r of a page: block floor(r / rows per block) of its row map, at byte offset
(r mod rows per block) × row bytes. -/
def rowAddress (pg : Page) (r : Nat) : Nat :=
  (pg.rowMap[r / pg.rowsPerBlock]?).getD 0 * blockBytes + r % pg.rowsPerBlock * pg.rowBytes

/-- R71, R76: every row of a page lies in a block of the block memory and within it. -/
def pageMapped (pg : Page) : Bool :=
  pg.rowMap.all (fun b => decide (b < blockCount)) && decide (pg.rowsPerBlock * pg.rowBytes ≤ blockBytes)
    && decide (0 < pg.rowsPerBlock) && decide (pg.height ≤ pg.rowsPerBlock * pg.rowMap.length)

/-- R81: write rows in ascending order from row r on, each from the next row bytes of the data. -/
def writeRows (pg : Page) : Nat → Nat → List Byte → List Host.Cell → List Host.Cell
  | _, 0, _, m => m
  | r, n + 1, data, m =>
    writeRows pg (r + 1) n (data.drop pg.rowBytes) (memoryWriteAll m (rowAddress pg r) (data.take pg.rowBytes))

/-- R79, R81: the value of the pixel at a row and a column of a page. Pixels are packed from the most significant
bits of a byte down. -/
def pixelAt (pg : Page) (m : List Host.Cell) (r c : Nat) : Nat :=
  let perByte := 8 / pg.depth
  let byte := (memoryRead m (rowAddress pg r + c / perByte)).toNat
  byte / 2 ^ (8 - pg.depth - c % perByte * pg.depth) % 2 ^ pg.depth

/-- R84: an accepted PUT ROWS is abandoned: its rows are not counted. -/
def abandonWrite (w : PendingWrite) (s : State) : State :=
  { s with store := { s.store with writes := s.store.writes.filter (· != w) } }

/-- R84, R90: between two states the oldest accepted PUT ROWS may have been abandoned; then some of its bytes, the first
of its row data, stand in the memory. Their number is a free value, so that a row may stand there in part (log entry 3).
A PUT ROWS behind the oldest has written nothing yet. -/
def landHead (before s : State) : State :=
  match before.store.writes with
  | [] => s
  | w :: _ =>
    match tableGet before.store.pages w.page with
    | none => s
    | some pg =>
      if w ∈ s.store.writes then s
      else
        { s with
          choices := s.choices + 1
          store := { s.store with
            memory := writeRows pg w.first w.count (w.data.take (Config.bytesLanded s.choices)) s.store.memory } }

/-- R84: abandon the PUT ROWS in flight of a port, with no reply. -/
def abandonWritesOf (p : Port) (s : State) : State :=
  (s.store.writes.filter (·.port == p)).foldl (fun s w => abandonWrite w s) s

/-- R84: one PUT ROWS in flight is abandoned and answered BAD_HANDLE. -/
def refuseWrite (s : State) (w : PendingWrite) : State :=
  setIdle w.port (answer w.port .putRows w.tag .badHandle [] (abandonWrite w s))

/-- R84: the PUT ROWS in flight on a page that is dropped are abandoned and answered BAD_HANDLE. -/
def refuseWritesTo (h : Nat) (s : State) : State :=
  (s.store.writes.filter (·.page == h)).foldl refuseWrite s

/-- R86: return the blocks to the tail of the free list, lower the held count, remove the record. -/
def freePage (h : Nat) (pg : Page) (s : State) : State :=
  { s with store := { s.store with
      freeList := s.store.freeList ++ pg.rowMap
      blockMap := pg.rowMap.foldl (fun m b => m.set b none) s.store.blockMap
      held := s.store.held.set pg.owner (s.store.held.get pg.owner - pg.rowMap.length)
      pages := tableErase s.store.pages h } }

/-- R86: drop a page. -/
def dropPage (h : Nat) (s : State) : State :=
  match tableGet s.store.pages h with
  | none => s
  | some pg => freePage h pg (refuseWritesTo h s)

/-- R74: attach a page to a document, or detach it. -/
def setAttached (doc : Option Nat) (h : Nat) (s : State) : State :=
  { s with store := { s.store with pages := tableModify (fun pg => { pg with attached := doc }) s.store.pages h } }

/-- R73: the page is COMPLETE. -/
def pageComplete (s : State) (h : Nat) : Bool :=
  match tableGet s.store.pages h with
  | some pg => pg.state == .complete
  | none => false

end Sys2Proof.Machine
end

