-- ==== Sys2Proof/Machine/DocOps.lean ====
section
/-! DEFINITION. The operations of the Document Queue Unit: the port queue and its cursor, marks, the final state of a
document and the release of its record (chapter 2). -/

namespace Sys2Proof.Machine

/-- R30: the state is final. -/
def DocState.isFinal : DocState → Bool
  | .queued | .placing | .placed => false
  | .done | .damaged | .incomplete | .cancelled | .rejected => true

/-- The document record under a handle. -/
def docOf (s : State) (h : Nat) : Option Doc := tableGet s.docs.table h

/-- Change a document record. -/
def modDoc (h : Nat) (f : Doc → Doc) (s : State) : State :=
  { s with docs := { s.docs with table := tableModify f s.docs.table h } }

/-- Change the port queue of a port. -/
def modQueue (p : Port) (f : Queue → Queue) (s : State) : State :=
  { s with docs := { s.docs with queues := s.docs.queues.set p (f (s.docs.queues.get p)) } }

/-- R33: the item at the placement cursor. -/
def Queue.cursorItem (q : Queue) : Option Item := q.items[q.cursor]?

/-- R12, R33: the queue holds an unplaced item. -/
def Queue.hasUnplaced (q : Queue) : Bool := decide (q.cursor < q.items.length)

/-- R33: the document at a port's cursor. -/
def cursorDoc (s : State) (p : Port) : Option Nat :=
  match (s.docs.queues.get p).cursorItem with
  | some (.doc h) => some h
  | _ => none

/-- R34: the item is passed when the cursor reaches it: a MARK at once, a document that is PLACED. -/
def passable (s : State) : Item → Bool
  | .mark => true
  | .doc h =>
    match docOf s h with
    | some d => d.state == .placed
    | none => false

/-- R34: the cursor of the port would move forward now. -/
def cursorMoves (s : State) (p : Port) : Bool :=
  match (s.docs.queues.get p).cursorItem with
  | some i => passable s i
  | none => false

/-- R16: a mark is taken: into the mark set of an OPEN sheet, otherwise into the pending mark set. -/
def takeMark (p : Port) (s : State) : State :=
  if s.comp.sheet = .open then { s with comp := { s.comp with marks := s.comp.marks.set p true } }
  else { s with comp := { s.comp with pendingMarks := s.comp.pendingMarks.set p true } }

/-- R34: move the cursor over the items that are passed, taking marks; at most as many as the fuel. -/
def runCursor (p : Port) : Nat → State → State
  | 0, s => s
  | n + 1, s =>
    match (s.docs.queues.get p).cursorItem with
    | none => s
    | some i =>
      if passable s i then
        let s := modQueue p (fun q => { q with cursor := q.cursor + 1 }) s
        runCursor p n (match i with | .mark => takeMark p s | .doc _ => s)
      else s

/-- R35: the passed MARK items at the head of a queue leave it. -/
def trimMarks : List Item → Nat → Queue
  | .mark :: l, n + 1 => trimMarks l n
  | l, n => ⟨l, n⟩

/-- R34, R35: the cursor runs on and the passed marks at the head leave. -/
def advanceCursor (p : Port) (s : State) : State :=
  let s := runCursor p (s.docs.queues.get p).items.length s
  modQueue p (fun q => trimMarks q.items q.cursor) s

/-- R62: the port's held flag. -/
def setHeld (p : Port) (b : Bool) (s : State) : State :=
  { s with comp := { s.comp with heldFlags := s.comp.heldFlags.set p b } }

/-- R62: every held flag is cleared. -/
def clearHeld (s : State) : State := { s with comp := { s.comp with heldFlags := everyPort false } }

/-- R32, R35, R62: a document's item leaves its queue; if it was the cursor item the port's held flag is cleared
and the cursor moves to the next item. -/
def removeItem (p : Port) (h : Nat) (s : State) : State :=
  let q := s.docs.queues.get p
  match q.items.findIdx? (· == .doc h) with
  | none => s
  | some i =>
    let s := modQueue p (fun q => ⟨q.items.eraseIdx i, if i < q.cursor then q.cursor - 1 else q.cursor⟩) s
    advanceCursor p (if i = q.cursor then setHeld p false s else s)

/-- R28: a serial names the sheet in the stage, and that sheet is not yet FINISHED or ABORTED. -/
def sheetUnfinished (s : State) (serial : Nat) : Bool :=
  match s.index.current with
  | some r => r.serial == serial && (r.status == .opened || r.status == .closed)
  | none => false

/-- R28: the release condition: final, and every sheet of the sheet list FINISHED or ABORTED. -/
def releasable (s : State) (d : Doc) : Bool :=
  d.state.isFinal && d.sheets.all fun r => !sheetUnfinished s r.serial

/-- R28, R88: release a document record: its attached pages are dropped in the order of its page list. -/
def releaseDoc (h : Nat) (s : State) : State :=
  match docOf s h with
  | none => s
  | some d =>
    let attached := (d.pages.map (·.1)).filter fun pg =>
      match tableGet s.store.pages pg with
      | some r => r.attached == some h
      | none => false
    let s := attached.foldl (fun s pg => dropPage pg s) s
    { s with docs := { s.docs with table := tableErase s.docs.table h } }

/-- R28: release the record if the condition holds. -/
def testRelease (h : Nat) (s : State) : State :=
  match docOf s h with
  | some d => if releasable s d then releaseDoc h s else s
  | none => s

/-- R32: the number of pages of a document with an outcome. -/
def Doc.countOutcome (d : Doc) (o : PageOutcome) : Nat := d.pages.countP (·.2.outcome == o)

/-- R32: a document becomes final: state, retakes, queue item, DOC_FINAL, release test. -/
def finalizeDoc (h : Nat) (st : DocState) (reason : Option Reason) (s : State) : State :=
  match docOf s h with
  | none => s
  | some d =>
    let s := modDoc h (fun d => { d with state := st }) s
    let s := { s with comp := { s.comp with retakes := s.comp.retakes.filter (·.doc != h) } }
    let s := removeItem d.owner h s
    let s := notify d.owner (.docFinal h st reason (d.countOutcome .exposed) (d.countOutcome .lost)) s
    testRelease h s

/-- R31: change the mark of page number i (counted from 1) of a document. -/
def Doc.modPage (i : Nat) (f : PageMark → PageMark) (d : Doc) : Doc :=
  { d with pages := d.pages.modify (i - 1) fun x => (x.1, f x.2) }

/-- R42, R43: a page that is attached to a document is detached from it. -/
def detachFrom (h : Nat) (s : State) (pg : Nat) : State :=
  match tableGet s.store.pages pg with
  | some r => if r.attached = some h then setAttached none pg s else s
  | none => s

/-- R42, R43: the pages of a document are detached. -/
def detachPages (h : Nat) (d : Doc) (s : State) : State := (d.pages.map (·.1)).foldl (detachFrom h) s

end Sys2Proof.Machine
end

