-- ==== Sys2Proof/Machine/Geometry.lean ====
section
/-! DEFINITION. The geometry of a page on a layout (R92 to R98), by integer arithmetic in nanometres. -/

namespace Sys2Proof.Machine

/-- R92: the nominal pitch p0 of a scan pitch under a reduction. -/
def nominalPitch (dpi reduction : Nat) : Nat := 25400000 / (dpi * reduction)

/-- R93: the pitch for a candidate scale. -/
def pitchAt (p0 k : Nat) : Nat := p0 * k / 64

/-- R93: the scale fits both written extents within the frame area. -/
def scaleFits (p0 w h fw fh k : Nat) : Bool :=
  decide (w * pitchAt p0 k ≤ fw) && decide (h * pitchAt p0 k ≤ fh)

/-- R93: the largest scale from 32 to 64 that fits. -/
def bestScale (p0 w h fw fh : Nat) : Option Nat :=
  ((List.range 33).map (64 - ·)).find? (scaleFits p0 w h fw fh)

/-- R94, R95: the geometry at a scale: the pitch is at most 100,000 nm and the raster is centred. -/
def geometryAt (p0 w h fw fh k : Nat) : Geometry :=
  let p := min (pitchAt p0 k) 100000
  { width := w, height := h, scale := k, pitch := p, ox := (fw - w * p) / 2, oy := (fh - h * p) / 2 }

/-- R92: the written width of a page. -/
def Page.writtenWidth (pg : Page) : Nat :=
  match pg.rotation with
  | .r0 | .r180 => pg.width
  | .r90 | .r270 => pg.height

/-- R92: the written height of a page. -/
def Page.writtenHeight (pg : Page) : Nat :=
  match pg.rotation with
  | .r0 | .r180 => pg.height
  | .r90 | .r270 => pg.width

/-- R93, R94: the geometry of a page on a layout, or none when the page is UNFIT. -/
def pageGeometry (pg : Page) (l : Layout) : Option Geometry :=
  let p0 := nominalPitch pg.dpi l.reduction
  match bestScale p0 pg.writtenWidth pg.writtenHeight (l.width * 1000) (l.height * 1000) with
  | none => none
  | some k =>
    if pitchAt p0 k < 1000 then none
    else some (geometryAt p0 pg.writtenWidth pg.writtenHeight (l.width * 1000) (l.height * 1000) k)

/-- R63: the page fits the layout. -/
def pageFits (pg : Page) (l : Layout) : Bool := (pageGeometry pg l).isSome

/-- R98: the geometry of a synthetic 1-bit page at 150 dpi: never UNFIT; where no scale fits it is written at
k = 32 and clipped. -/
def syntheticGeometry (w h reduction fw fh : Nat) : Geometry :=
  let p0 := nominalPitch 150 reduction
  match bestScale p0 w h fw fh with
  | some k => geometryAt p0 w h fw fh k
  | none =>
    let p := min (pitchAt p0 32) 100000
    geometryAt p0 (min w (fw / p)) (min h (fh / p)) fw fh 32

/-- R98: the geometry of an index page on a layout. -/
def indexGeometry (l : Layout) : Geometry :=
  syntheticGeometry 608 800 l.reduction (l.width * 1000) (l.height * 1000)

/-- R98: the geometry of the title page, written at R 2 on the title site. -/
def titleGeometry : Geometry := syntheticGeometry 1200 48 2 140000000 11000000

/-- R96: the page row that the dot at written row j, column i takes its pixel from. -/
def sourceRow (pg : Page) (j i : Nat) : Nat :=
  match pg.rotation with
  | .r0 => j
  | .r90 => pg.height - 1 - i
  | .r180 => pg.height - 1 - j
  | .r270 => i

/-- R96: the page column that the dot at written row j, column i takes its pixel from. -/
def sourceColumn (pg : Page) (j i : Nat) : Nat :=
  match pg.rotation with
  | .r0 => i
  | .r90 => j
  | .r180 => pg.width - 1 - i
  | .r270 => pg.width - 1 - j

/-- R96, R122: a page row that written line j draws on and that has not arrived, if there is one. -/
def missingRow (pg : Page) (j : Nat) : Option Nat :=
  match pg.rotation with
  | .r0 => if pg.received ≤ j then some j else none
  | .r180 => if pg.received ≤ pg.height - 1 - j then some (pg.height - 1 - j) else none
  | .r90 | .r270 => if pg.received < pg.height then some pg.received else none

/-- R154: the place of frame n: its cell in the grid of cells of the frame's sides, by the cell's top-left corner from
the grid's, whatever the layout (log entry 41). -/
def framePlace (l : Layout) (n : Nat) : Place := .cell (n % l.cols * l.width) (n / l.cols * l.height)

/-- R154: the place of a site. -/
def sitePlace (l : Layout) : Site → Place
  | .frame n => framePlace l n
  | .title => .title

/-- R7: two decimal digits of a number. -/
def digits2 (n : Nat) : Text := [BitVec.ofNat 8 (0x30 + n / 10 % 10), BitVec.ofNat 8 (0x30 + n % 10)]

/-- R125, R169: eight decimal digits of a number, with leading zeros. -/
def digits8 (n : Nat) : Text := digits2 (n / 1000000) ++ digits2 (n / 10000) ++ digits2 (n / 100) ++ digits2 n

/-- R7: the address of frame n: the row letter and the column as two digits. -/
def frameAddress (l : Layout) (n : Nat) : Text :=
  BitVec.ofNat 8 (0x41 + n / l.cols) :: digits2 (n % l.cols + 1)

end Sys2Proof.Machine
end

