-- ==== Sys2Proof/Machine/Dose.lean ====
section
/-! DEFINITION. From pixel to pulse (R99 to R106), by integer arithmetic. -/

namespace Sys2Proof.Machine

/-- R99: the tone of a page pixel of a depth. -/
def pixelTone (tone : List Nat) (depth v : Nat) : Nat :=
  match depth with
  | 8 => v
  | 4 => tone.getD v 0
  | 2 => tone.getD (5 * v) 0
  | _ => tone.getD (15 * v) 0

/-- R99: the tone of a pixel of an index page or of the title. -/
def syntheticTone (v : Nat) : Nat := if v = 0 then 0 else 255

/-- R100: the tone of a dot with an overlay value. -/
def overlaidTone (f : FrameSettings) (overlay tone : Nat) : Nat :=
  match overlay with
  | 0 => tone
  | 1 => f.glyphTone
  | _ => f.cellTone

/-- R101: the curve bank that is latched. -/
def latchedCurve (d : DoseUnit) : List Nat := if d.sheet.bank = 0 then d.bank0 else d.bank1

/-- R102: the dose for a density, by interpolation in the film response table. -/
def doseOf (response : List Nat) (density : Nat) : Nat :=
  let i := density / 100
  let fi := response.getD i 0
  if i = 25 then fi else fi + (response.getD (i + 1) 0 - fi) * (density - 100 * i) / 100

/-- R103: the lot-corrected dose. -/
def lotDose (dose lot : Nat) : Nat := dose * lot / 1024

/-- R104: the pulse width before the limits. -/
def rawPulse (dl p g : Nat) : Nat := if dl = 0 then 0 else (dl * 1024 + p * g / 2) / (p * g)

/-- R105: the pulse width within the limits of the modulator. -/
def limitPulse (dotTime w : Nat) : Nat := if w = 1 then 2 else if dotTime - 2 < w then dotTime - 2 else w

/-- R105: the dot counts as saturated. -/
def saturates (dotTime w : Nat) : Bool := decide (w ≠ 1) && decide (dotTime - 2 < w)

/-- R101 to R104: the pulse width of a tone before the limits, under the latched settings and the line's reading. -/
def tonePulse (d : DoseUnit) (p tone : Nat) : Nat :=
  rawPulse (lotDose (doseOf d.sheet.response ((latchedCurve d).getD tone 0)) d.sheet.lot) p d.frame.gain

/-- R106: the pulse widths of a line's tones. -/
def linePulses (d : DoseUnit) (p : Nat) (tones : List Nat) : List Nat :=
  tones.map fun t => limitPulse d.frame.dotTime (tonePulse d p t)

/-- R105: the saturated number of a line. -/
def lineSaturated (d : DoseUnit) (p : Nat) (tones : List Nat) : Nat :=
  tones.countP fun t => saturates d.frame.dotTime (tonePulse d p t)

end Sys2Proof.Machine
end

