-- ==== Sys2Proof/Machine/Flags.lean ====
section
/-! DEFINITION. Every flag and verdict that the part computes: the attention line (R183), the beam state (R140), the
drift flag (R124) and the saturated flag (R134). -/

namespace Sys2Proof.Machine

/-- R183: a notice kind is enabled by a mask. -/
def enabled (mask : BitVec 10) (n : Notice) : Bool := mask.getLsbD (n.code - 1)

/-- R183: the attention condition: the queue contains a record of an enabled kind. -/
def PortRec.attentionCondition (r : PortRec) : Bool := r.notices.any (enabled r.mask)

/-- R183: the attention line of a port. -/
def PortRec.attention (r : PortRec) : Bool := r.attentionCondition && r.quiet.isNone

/-- R139: the floor of a floor index. -/
def beamFloor (index : Nat) : Nat := 512 + 32 * index

/-- R139: the return floor. -/
def returnFloor (index : Nat) : Nat := beamFloor index + 16

/-- R139: the ceiling and the return ceiling. -/
def beamCeiling : Nat := 1536

/-- R139: the return ceiling, 16 below the ceiling. -/
def returnCeiling : Nat := 1520

/-- R140: the verdict on a reading under a window, from the beam state before. -/
def judgeBeam (index : Nat) (before : BeamState) (p : Nat) : BeamState :=
  if p < beamFloor index then .outLow
  else if beamCeiling < p then .outHigh
  else
    match before with
    | .unknown | .inWindow => .inWindow
    | .outLow | .outHigh =>
      if p < returnFloor index then .outLow else if returnCeiling < p then .outHigh else .inWindow

/-- R136: what the sensor reads at a power. -/
def sensorReading (power : Nat) : Nat := min power 2047

/-- R124, R141: the drift threshold. -/
def driftThreshold (pStart limit : Nat) : Nat := pStart * limit / 256

/-- R124: two readings differ, in either direction, by more than a threshold. -/
def drifts (threshold pStart p : Nat) : Bool := decide (threshold < p - pStart) || decide (threshold < pStart - p)

/-- R123, R128: a sample taken for the frame is entered in P minimum and P maximum. -/
def Report.sampled (p : Nat) (r : Report) : Report := { r with pMin := min r.pMin p, pMax := max r.pMax p }

/-- R124, R134: a reading latched for a line after line 0 is tested for drift. -/
def Report.testDrift (threshold p : Nat) (r : Report) : Report :=
  if drifts threshold r.pStart p then { r with isDrift := true } else r

/-- R105: a line's saturated number is added to the saturated count, which stops at 65,535. -/
def Report.addSaturated (n : Nat) (r : Report) : Report := { r with saturated := min 65535 (r.saturated + n) }

/-- R130, R131, R134: a report is closed, with the spoil cause if the frame is spoiled. -/
def Report.close (cause : Option SpoilCause) (r : Report) : Report :=
  { r with isSaturated := decide (0 < r.saturated), cause := cause }

end Sys2Proof.Machine
end

