-- ==== Sys2Proof/Machine/BeamOps.lean ====
section
/-! DEFINITION. The list of requesters and the measurements of the Beam Monitor (R137, R138). -/

namespace Sys2Proof.Machine

/-- R137: the beam is busy from the start of a line's dots to the end of its retrace, and free otherwise. -/
def beamFree (s : State) : Bool := !(s.writer.mode == .writing && s.writer.phase != .due)

/-- R137: a measurement begins for every requester in the list. -/
def beginMeasurement (s : State) : State :=
  { s with beam := { s.beam with inFlight := some s.now, serving := s.beam.waiting, waiting := [] } }

/-- R137: with no measurement in flight, a requester in the list and the beam free, a measurement begins. -/
def kickBeam (s : State) : State :=
  if s.beam.inFlight.isNone && !s.beam.waiting.isEmpty && beamFree s then beginMeasurement s else s

/-- R137: a requester stands in the list at most once. -/
def addRequester (r : Requester) (s : State) : State :=
  if r ∈ s.beam.waiting then s else { s with beam := { s.beam with waiting := s.beam.waiting ++ [r] } }

/-- R137: a request joins the list of requesters for the next measurement. -/
def joinMeasurement (r : Requester) (s : State) : State := kickBeam (addRequester r s)

/-- R138: a requester withdraws. -/
def withdraw (r : Requester) (s : State) : State :=
  { s with beam := { s.beam with waiting := s.beam.waiting.filter (· != r), serving := s.beam.serving.filter (· != r) } }

end Sys2Proof.Machine
end

