-- ==== Sys2Proof/Machine/TransportOps.lean ====
section
/-! DEFINITION. The request queue, the motions and the recovery of the Film Transport (R147, R154, R155, R158). -/

namespace Sys2Proof.Machine

/-- R147: a requested operation joins the end of the request queue. -/
def enqueueOp (op : Operation) (s : State) : State := { s with film := { s.film with queue := s.film.queue ++ [op] } }

/-- R147, R154: the halt list allows the operation to begin, and a LOST stage begins no move. -/
def opAllowed (s : State) : Operation → Bool
  | .stageMove _ true => s.comp.halts.all (· == .manual) && s.film.stage != .lost
  | .stageMove _ false => s.comp.halts.isEmpty && s.film.stage != .lost
  | _ => s.comp.halts.isEmpty

/-- R120, R154: the arrival of a move is reported to the Writer, which asks for a starting sample; the arrival of
a move that the Writer has given up is reported to no one. -/
def reportArrival (live : Bool) (s : State) : State :=
  if live && s.writer.mode == .moving then
    joinMeasurement .writer { s with writer := { s.writer with sample := some .start } }
  else s

/-- R147: the motion of an operation begins, with its timer. -/
def startMotion (op : Operation) (s : State) : State := { s with film := { s.film with motion := some ⟨op, s.now⟩ } }

/-- R147, R153, R154, R155: the transport begins an operation. A move to the place at which the stage stands
completes at once. -/
def beginOp (op : Operation) (s : State) : State :=
  match op with
  | .stageMove place live =>
    if s.film.stage = .atSite place then reportArrival live s
    else startMotion op { s with film := { s.film with stage := .moving } }
  | .homing => startMotion op { s with film := { s.film with stage := .homing } }
  | .finishing => startMotion op { s with film := { s.film with gateDue := false, clamped := false } }
  | .leaderIn | .leaderOut | .opening => startMotion op s

/-- R147: the head of the queue, taken from it if the halt list allows it to begin. -/
def headOp (s : State) : Option (State × Operation) :=
  match s.film.queue with
  | [] => none
  | op :: rest => if opAllowed s op then some ({ s with film := { s.film with queue := rest } }, op) else none

/-- R147, R158: what the transport begins next, if anything. With the halt list empty the re-homing and then the
interrupted operation come before the head of the queue; otherwise the head alone may begin. -/
def nextOp (s : State) : Option (State × Operation) :=
  if s.film.motion.isSome then none
  else if s.comp.halts.isEmpty then
    if s.film.rehome then some (s, .homing)
    else
      match s.film.heldOp with
      | some op => some (s, op)
      | none => headOp s
  else headOp s

/-- R147: begin operations until one is in motion or none may begin; at most as many as the fuel. -/
def pumpFor : Nat → State → State
  | 0, s => s
  | n + 1, s =>
    match nextOp s with
    | some (s', op) => pumpFor n (beginOp op s')
    | none => s

/-- R147: the transport tests the head. -/
def pump (s : State) : State := pumpFor (s.film.queue.length + 1) s

/-- R121: a stage move that the Writer has given up. -/
def Operation.giveUp : Operation → Operation
  | .stageMove place _ => .stageMove place false
  | op => op

/-- R121: the Writer withdraws its interest in its move. -/
def giveUpMoves (s : State) : State :=
  { s with film := { s.film with
      queue := s.film.queue.map Operation.giveUp
      motion := s.film.motion.map fun m => { m with op := m.op.giveUp } } }

/-- R147: the limit of an operation's timer in ticks: 5 s for a film operation, 400 ms for the stage. -/
def Operation.limit : Operation → Nat
  | .leaderIn | .leaderOut | .opening | .finishing => 500000000
  | .stageMove _ _ | .homing => 40000000

/-- R147, R158: a motion ends; an interrupted operation that completes leaves the record. -/
def endMotion (s : State) : State := { s with film := { s.film with motion := none } }

/-- R158: the operation in motion is the one of the recovery record, so its completion clears the record. -/
def completeFilmOp (op : Operation) (s : State) : State :=
  { s with film := { s.film with motion := none, heldOp := if s.film.heldOp = some op then none else s.film.heldOp } }

/-- The operation in motion. -/
def motionOp (s : State) : Option Operation := s.film.motion.map (·.op)

end Sys2Proof.Machine
end

