-- ==== Sys2Proof/Machine/ArbiterOps.lean ====
section
/-! DEFINITION. The placement arbiter: what its next step is, and what a grant does (chapter 3). -/

namespace Sys2Proof.Machine

/-! ## Runs of frames (R54) -/

/-- R54: frames in rising order cut into runs wherever one is not the next after the previous one. -/
def runsOf : List Nat → List Run
  | [] => []
  | f :: rest =>
    match runsOf rest with
    | [] => [⟨f, 1⟩]
    | r :: rs => if f + 1 = r.first then ⟨f, r.count + 1⟩ :: rs else ⟨f, 1⟩ :: r :: rs

/-- Insert a frame into frames in rising order. -/
def insertFrame (f : Nat) : List Nat → List Nat
  | [] => [f]
  | g :: l => if f ≤ g then f :: g :: l else g :: insertFrame f l

/-- R163: an entry's frames with those of a grant, in rising order. -/
def mergeFrames (held new : List Nat) : List Nat := new.foldl (fun l f => insertFrame f l) held

/-! ## Readiness (R68, R69) -/

/-- R69: the rows a stream page of a height must have received. -/
def streamLead (height : Nat) : Nat := min 64 height

/-- R68, R69: the page of a frame is COMPLETE, or the stream conditions hold. -/
def readyRef (s : State) (kind : FrameKind) (ref : PageRef) : Bool :=
  match tableGet s.store.pages ref.page with
  | none => false
  | some pg =>
    pg.state == .complete
      || (kind == .data && (match docOf s ref.doc with | some d => d.stream | none => false)
          && pg.rotation == .r0 && decide (streamLead pg.height ≤ pg.received))

/-- R68: a PLACED frame whose page is ready becomes READY. -/
def FrameRec.testReady (s : State) (f : FrameRec) : FrameRec :=
  match f.state, f.ref with
  | .placed, some ref => if readyRef s f.kind ref then { f with state := .ready } else f
  | _, _ => f

/-- R68: every PLACED frame that satisfies a test is tested for readiness. -/
def testReadyFrames (p : FrameRec → Bool) (s : State) : State :=
  modCurrent (fun r => { r with frames := r.frames.map fun f => if p f then f.testReady s else f }) s

/-! ## Trying a document (R63 to R67) -/

/-- How a try ends (R60). -/
inductive TryResult
  | grant (frames : List Nat)
  | reject (reason : Reason) (page : Nat)
  | fail
  deriving DecidableEq, Repr

/-- R63: the page under a handle fits a layout. -/
def handleFits (s : State) (l : Layout) (h : Nat) : Bool :=
  match tableGet s.store.pages h with
  | some pg => pageFits pg l
  | none => false

/-- R64: the index, counted from `i`, of the first page that is UNFIT. -/
def firstUnfit (s : State) (l : Layout) : Nat → List Nat → Option Nat
  | _, [] => none
  | i, h :: hs => if handleFits s l h then firstUnfit s l (i + 1) hs else some i

/-- R65: the lowest start from `s` on of `n` consecutive free frames. -/
def findRun (n : Nat) : List Bool → Nat → Option Nat
  | [], _ => none
  | b :: bs, s => if n ≤ (b :: bs).length ∧ ((b :: bs).take n).all id then some s else findRun n bs (s + 1)

/-- R65: which data frames of a sheet are FREE. -/
def SheetRec.freeMap (r : SheetRec) : List Bool := (r.frames.take r.layout.dataFrames).map fun f => f.state == .free

/-- R52: the entry count has reached the index capacity. -/
def SheetRec.indexFull (r : SheetRec) : Bool := decide (r.layout.capacity ≤ r.entries.length)

/-- R65: the try of a KEEP document. -/
def tryKeep (s : State) (r : SheetRec) (d : Doc) : TryResult :=
  let n := d.pages.length
  if r.layout.dataFrames < n then .reject .tooLong 0
  else
    match firstUnfit s r.layout 1 (d.pages.map (·.1)) with
    | some i => .reject .unfit i
    | none =>
      if r.indexFull then .fail
      else
        match findRun n r.freeMap 0 with
        | some f => .grant ((List.range n).map (f + ·))
        | none => .fail

/-- R66: the walk over the free data frames: `need` pages are unplaced, `held` are the frames of the entry with
those taken so far. It stops before a ninth run, counted over all the frames of the entry (log entry 15). -/
def walkFree : List Nat → Nat → List Nat → List Nat
  | [], _, _ => []
  | _, 0, _ => []
  | f :: fs, need + 1, held =>
    let held' := insertFrame f held
    if 8 < (runsOf held').length then [] else f :: walkFree fs need held'

/-- R67: an entry that already holds eight runs: the walk goes on from the frame directly after its last frame, for as
long as the frames follow one another; `next` is the frame that may be taken. -/
def walkOn : List Nat → Nat → Nat → List Nat
  | [], _, _ => []
  | _, 0, _ => []
  | f :: fs, need + 1, next =>
    if f = next then f :: walkOn fs need (next + 1)
    else if f < next then walkOn fs (need + 1) next
    else []

/-- R66, R67: the candidate frames of a FLOW document: `free` are the free data frames, `need` its unplaced pages,
`held` the frames of its entry on the sheet. -/
def flowFrames (free : List Nat) (need : Nat) (held : List Nat) : List Nat :=
  match held.getLast? with
  | some last => if 8 ≤ (runsOf held).length then walkOn free need (last + 1) else walkFree free need held
  | none => walkFree free need held

/-- R67: the NORMAL entry of a document on a sheet. -/
def SheetRec.normalEntry (r : SheetRec) (h : Nat) : Option Entry :=
  r.entries.find? fun e => e.doc == h && e.kind == .normal

/-- R66, R67: the try of a FLOW document. -/
def tryFlow (s : State) (r : SheetRec) (h : Nat) (d : Doc) : TryResult :=
  let entry := r.normalEntry h
  let held := match entry with | some e => e.frames | none => []
  let taken := flowFrames r.freeFrames (d.pages.length - d.placed) held
  if taken = [] then .fail
  else if entry.isNone && r.indexFull then .fail
  else
    match firstUnfit s r.layout (d.placed + 1) (((d.pages.map (·.1)).drop d.placed).take taken.length) with
    | some i => .reject .unfit i
    | none => .grant taken

/-- R65, R66: the try of a document by its class. -/
def tryDoc (s : State) (r : SheetRec) (h : Nat) (d : Doc) : TryResult :=
  match d.cls with
  | .keep => tryKeep s r d
  | .flow => tryFlow s r h d

/-! ## The next step of a run (R50, R57, R58, R60) -/

/-- A step of the arbiter. -/
inductive ArbStep
  | grantRetake (t : Retake) (frame : Nat)
  | unfitRetake (t : Retake)
  | grantDoc (p : Port) (h : Nat) (frames : List Nat)
  | rejectDoc (p : Port) (h : Nat) (reason : Reason) (page : Nat)
  | failTry (p : Port)
  deriving DecidableEq, Repr

/-- R57, R58: the step of the retake phase: the first retake whose page is COMPLETE, when a data frame is FREE and
the index has room. -/
def retakeStep (s : State) (r : SheetRec) : Option ArbStep :=
  match s.comp.retakes.find? (fun t => pageComplete s t.page) with
  | none => none
  | some t =>
    match r.freeFrames with
    | [] => none
    | f :: _ =>
      if r.indexFull then none
      else if handleFits s r.layout t.page then some (.grantRetake t f) else some (.unfitRetake t)

/-- R60: the port phase passes over a port that is held or has no document at its cursor. -/
def passedOver (s : State) (p : Port) : Bool := s.comp.heldFlags.get p || (cursorDoc s p).isNone

/-- R60: pass over ports until one has a document to try, or four considerations in succession have made no
grant. -/
def skipPorts (s : State) : Nat → ArbRun → Option ArbRun
  | 0, r => if r.count < 4 ∧ !passedOver s r.port then some r else none
  | n + 1, r =>
    if 4 ≤ r.count then none
    else if passedOver s r.port then skipPorts s n { r with port := r.port.next, count := r.count + 1 }
    else some r

/-- R60: the step of the port phase at a port. -/
def portStep (s : State) (r : SheetRec) (p : Port) : Option ArbStep :=
  match cursorDoc s p with
  | none => none
  | some h =>
    match docOf s h with
    | none => some (.failTry p)
    | some d =>
      match tryDoc s r h d with
      | .grant frames => some (.grantDoc p h frames)
      | .reject reason page => some (.rejectDoc p h reason page)
      | .fail => some (.failTry p)

/-- R50, R57, R60: where a run stands when it comes to its next step: in the retake phase while that has a step, then
at the first port that is not passed over; in CLOSING in the retake phase alone. None: the run has no step left. -/
def nextRun (s : State) (r : SheetRec) (run : ArbRun) : Option ArbRun :=
  if s.comp.sheet = .open then
    if run.retakes ∧ (retakeStep s r).isSome then some run
    else if r.freeFrames.isEmpty then none
    else skipPorts s 4 { run with retakes := false }
  else if s.comp.sheet = .closing ∧ (retakeStep s r).isSome then some { run with retakes := true }
  else none

/-- The step of a run that stands at it. -/
def stepAt (s : State) (r : SheetRec) (run : ArbRun) : Option ArbStep :=
  if run.retakes then retakeStep s r else portStep s r run.port

/-- The next step of the run in progress, if there is one. -/
def nextStep (s : State) : Option ArbStep :=
  match s.comp.run, s.index.current with
  | some run, some r => (nextRun s r run).bind (stepAt s r)
  | _, _ => none

/-! ## What a grant does (R53) -/

/-- R53: a frame granted becomes PLACED with its page reference and kind. -/
def placeFrame (kind : FrameKind) (ref : PageRef) (f : FrameRec) : FrameRec :=
  { f with state := .placed, kind := kind, ref := some ref }

/-- R53: the frames granted take their references in order. -/
def placeFrames (kind : FrameKind) : List (Nat × PageRef) → SheetRec → SheetRec
  | [], r => r
  | (n, ref) :: l, r => placeFrames kind l (r.modFrame n (placeFrame kind ref))

/-- R51: the references of pages placed from index `i` on. -/
def pageRefs (h : Nat) (owner : Port) : Nat → List Nat → List PageRef
  | _, [] => []
  | i, pg :: pgs => ⟨pg, h, owner, i⟩ :: pageRefs h owner (i + 1) pgs

/-- R29, R53: the sheet's serial is added to the sheet list if it is not there. -/
def addSheetRef (serial : Nat) (normal : Bool) : List SheetRef → List SheetRef
  | [] => [⟨serial, normal⟩]
  | r :: rs =>
    if r.serial = serial then { r with normal := r.normal || normal } :: rs else r :: addSheetRef serial normal rs

/-- R54: the part number of a new NORMAL entry. -/
def partNumber (d : Doc) : Nat := d.sheets.countP (·.normal) + 1

/-- R14, R53: the first grant on an OPEN sheet starts the age timer, unless the age limit is 0. -/
def noteGrant (s : State) : State :=
  if s.comp.sheet = .open ∧ s.comp.firstGrant = none then
    { s with comp := { s.comp with
        firstGrant := some s.now, age := if s.comp.ageLimit = 0 then none else some s.now } }
  else s

/-- R53: the entry of a document grant: a new one, or the FLOW part's entry extended. -/
def grantEntry (d : Doc) (h : Nat) (frames : List Nat) (r : SheetRec) : SheetRec :=
  match r.normalEntry h with
  | some _ =>
    { r with entries := r.entries.map fun e =>
        if e.doc = h ∧ e.kind = .normal then
          { e with pageCount := e.pageCount + frames.length, runs := runsOf (mergeFrames e.frames frames) }
        else e }
  | none =>
    { r with entries := r.entries ++
        [{ doc := h, owner := d.owner, key := d.key, kind := .normal, num := partNumber d, firstPage := d.placed + 1
           pageCount := frames.length, runs := runsOf frames, spoiled := none, mark := none }] }

/-- R54, R67: the part number that a grant to a document on a sheet goes under. -/
def grantPart (d : Doc) (h : Nat) (r : SheetRec) : Nat :=
  match r.normalEntry h with
  | some e => e.num
  | none => partNumber d

/-- R53: the effects of a document grant on the frame table, the entry list, the document record and the notice
queue, and the readiness of the frames. PLACED states every run of the frames granted (log entry 37). -/
def grantDocFrames (h : Nat) (d : Doc) (r : SheetRec) (frames : List Nat) (s : State) : State :=
  let pages := ((d.pages.map (·.1)).drop d.placed).take frames.length
  let refs := frames.zip (pageRefs h d.owner (d.placed + 1) pages)
  let s := modCurrent (fun r => grantEntry d h frames (placeFrames .data refs r)) s
  let s := modDoc h (fun d =>
    { d with
      placed := d.placed + frames.length
      sheets := addSheetRef r.serial true d.sheets
      state := if d.placed + frames.length = d.pages.length then .placed else .placing }) s
  let s := notify d.owner
    (.placed r.serial h .normal (grantPart d h r) (d.placed + 1) frames.length (runsOf frames) 0 0) s
  noteGrant (testReadyFrames (fun f => match f.ref with | some x => x.doc == h | none => false) s)

/-- R53, R58: the effects of a retake grant. -/
def grantRetakeFrame (t : Retake) (d : Doc) (r : SheetRec) (frame : Nat) (s : State) : State :=
  let s := modCurrent (fun r =>
    let r := r.modFrame frame (placeFrame .retake ⟨t.page, t.doc, t.owner, t.index⟩)
    { r with entries := r.entries ++
        [{ doc := t.doc, owner := t.owner, key := d.key, kind := .retake, num := t.num, firstPage := t.index
           pageCount := 1, runs := [⟨frame, 1⟩], spoiled := some (t.serial, t.frame), mark := none }] }) s
  let s := modDoc t.doc (fun d => { d with sheets := addSheetRef r.serial false d.sheets }) s
  let s := { s with comp := { s.comp with retakes := s.comp.retakes.erase t } }
  let s := notify t.owner (.placed r.serial t.doc .retake t.num t.index 1 [⟨frame, 1⟩] t.serial t.frame) s
  noteGrant (testReadyFrames (fun f => match f.ref with | some x => x.page == t.page | none => false) s)

end Sys2Proof.Machine
end

