-- ==== Sys2Proof/Machine/IndexOps.lean ====
section
/-! DEFINITION. The rendering of the index pages and the title (R168 to R171), the imprint (R125, R126) and their
dots. Rendered pages are kept as text; a dot follows from the text by the character generator. -/

namespace Sys2Proof.Machine

/-- A text of plain characters, as byte codes. -/
def ascii (codes : List Nat) : Text := codes.map (BitVec.ofNat 8 ·)

/-- `n` spaces. -/
def spaces (n : Nat) : Text := List.replicate n 0x20#8

/-- A text cut or followed by spaces to a width. -/
def padTo (n : Nat) (t : Text) : Text := (t ++ spaces n).take n

/-- R169: a number up to 999 right-aligned in three positions. -/
def number3 (n : Nat) : Text :=
  if n < 10 then spaces 2 ++ [BitVec.ofNat 8 (0x30 + n)]
  else if n < 100 then spaces 1 ++ digits2 n
  else BitVec.ofNat 8 (0x30 + n / 100 % 10) :: digits2 n

/-- R169: the status letter of an entry: E, S, V or I (an entry that still reads PLACED has a space). -/
def statusLetter : EntryStatus → Byte
  | .exposed => 0x45#8 | .partlySpoiled => 0x53#8 | .void => 0x56#8 | .incomplete => 0x49#8 | .placed => 0x20#8

/-- R168: the first frame of an entry's first run. -/
def Entry.firstFrame (e : Entry) : Nat :=
  match e.runs with
  | r :: _ => r.first
  | [] => 0

/-- R169: the 38-character line of an entry. -/
def entryLine (l : Layout) (frames : List FrameRec) (e : Entry) : Text :=
  padTo 24 e.key ++ spaces 1 ++ frameAddress l e.firstFrame ++ spaces 1 ++ number3 e.pageCount ++ spaces 1
    ++ [statusLetter (e.status frames)] ++ spaces 1
    ++ (match e.kind with | .normal => [0x50#8] | .retake => [0x52#8]) ++ digits2 e.num

/-- Insert an entry into entries in frame order. -/
def insertEntry (e : Entry) : List Entry → List Entry
  | [] => [e]
  | x :: l => if e.firstFrame < x.firstFrame then e :: x :: l else x :: insertEntry e l

/-- R168: the entries in frame order: by the first frame of their first run, lowest first. -/
def frameOrder (entries : List Entry) : List Entry := entries.foldl (fun l e => insertEntry e l) []

/-- R169: slot s (counted from 0) of index page m (counted from 0) as a line of a column. -/
def slotLine (r : SheetRec) (order : List Entry) (m slot : Nat) : Text :=
  match order[96 * m + slot]? with
  | some e => entryLine r.layout r.frames e
  | none => spaces 38

/-- R169: the 50 text lines of index page m (counted from 0). -/
def indexPage (r : SheetRec) (order : List Entry) (m : Nat) : List Text :=
  padTo 76 (ascii [0x53, 0x48, 0x45, 0x45, 0x54, 0x20] ++ digits8 r.serial)
    :: padTo 76 (ascii [0x50, 0x41, 0x47, 0x45, 0x20, 0x31 + m, 0x20, 0x4F, 0x46, 0x20, 0x30 + r.layout.index])
    :: (List.range 48).map fun y => slotLine r order m y ++ slotLine r order m (y + 48)

/-- R171: line 1 of the title: the template, a space if it is not empty, and the serial. -/
def titleLine1 (template : Text) (serial : Nat) : Text :=
  padTo 75 (template ++ (if template = [] then [] else spaces 1) ++ digits8 serial)

/-- R171: line 2 of the title: the keys of the first and the last entry in frame order. -/
def titleLine2 (order : List Entry) : Text :=
  padTo 75
    (match order with
     | [] => []
     | [e] => e.key
     | e :: rest => e.key ++ ascii [0x20, 0x54, 0x4F, 0x20] ++ (rest.getLast?.map (·.key)).getD [])

/-- R168, R171: the index pages and the title of a sheet, from its entries as they stand. -/
def renderSheet (template : Text) (r : SheetRec) : Rendered :=
  let order := frameOrder r.entries
  { pages := (List.range r.layout.index).map (indexPage r order)
    title := [titleLine1 template r.serial, titleLine2 order] }

/-- R126, R170: the glyph of a character marks a dot; a space marks none. -/
def glyphMarks (ch : Byte) (row col : Nat) : Bool := ch != 0x20#8 && Config.glyph ch.toNat row col

/-- The character at a line and a position of text lines. -/
def charAt (lines : List Text) (line pos : Nat) : Byte := ((lines[line]?).bind (·[pos]?)).getD 0x20#8

/-- R169, R170: the pixel of an index page: 0 where a glyph, in rows 2 to 13 of its 8 × 16 cell, marks the dot. -/
def indexPixel (lines : List Text) (row col : Nat) : Nat :=
  let r := row % 16
  if 2 ≤ r ∧ r ≤ 13 ∧ glyphMarks (charAt lines (row / 16) (col / 8)) (r - 2) (col % 8) then 0 else 1

/-- R171: the pixel of the title: glyphs at double size in 16 × 24 cells. -/
def titlePixel (lines : List Text) (row col : Nat) : Nat :=
  if glyphMarks (charAt lines (row / 24) (col / 16)) (row % 24 / 2) (col % 16 / 2) then 0 else 1

/-- R125: the imprint text of a data frame. -/
def imprintText (serial : Nat) (l : Layout) (n : Nat) (key : Text) : Text :=
  digits8 serial ++ spaces 1 ++ frameAddress l n ++ spaces 1 ++ padTo 11 (key.take 11)

/-- R126: the character cells of an imprint on a raster. -/
def imprintCells (g : Geometry) : Nat := min 24 (g.width / 8)

/-- R126: the first written column of the imprint. -/
def imprintColumn (side : Imprint) (g : Geometry) : Nat :=
  match side with
  | .bottomRight => g.width - 8 * imprintCells g
  | .off | .bottomLeft => 0

/-- R126: the overlay value of the dot at written row j, column i. -/
def overlayAt (side : Imprint) (text : Option Text) (g : Geometry) (j i : Nat) : Nat :=
  match text with
  | none => 0
  | some t =>
    let x0 := imprintColumn side g
    if g.height < 16 ∨ g.width < 8 ∨ j + 16 < g.height ∨ i < x0 ∨ x0 + 8 * imprintCells g ≤ i then 0
    else
      let row := j + 16 - g.height
      let ch := (t[(i - x0) / 8]?).getD 0x20#8
      if 2 ≤ row ∧ row ≤ 13 ∧ glyphMarks ch (row - 2) ((i - x0) % 8) then 1 else 2

end Sys2Proof.Machine
end

