-- ==== Sys2Proof/Machine/ComposerOps.lean ====
section
/-! DEFINITION. The Sheet Composer between commands: the runs of the arbiter, the close conditions, the passages from
state to state of the sheet (chapter 1, R48 to R50, R60). -/

namespace Sys2Proof.Machine

/-! ## Closing (R12, R13, R18) -/

/-- R18: a frame of the sheet is PLACED with a page that is not COMPLETE. -/
def awaitsCompletion (s : State) : Bool :=
  (currentFrames s).any fun f =>
    f.state == .placed && (match f.ref with | some r => !pageComplete s r.page | none => false)

/-- R13: entry to CLOSING with a reason. -/
def enterClosing (reason : CloseReason) (s : State) : State :=
  let s := modCurrent (fun r => { r with reason := some reason, status := .closed }) s
  { s with comp := { s.comp with
      sheet := .closing, age := none, completion := if awaitsCompletion s then some s.now else none } }

/-- R12: FULL: no data frame is FREE, or the entries have reached the index capacity. -/
def closeFull (r : SheetRec) : Bool := r.freeFrames.isEmpty || r.indexFull

/-- R12: BARRIER: the close group is not empty, a grant has been made, and the mark set covers the group. -/
def closeBarrier (s : State) : Bool :=
  allPorts.any s.comp.group.get && s.comp.firstGrant.isSome
    && allPorts.all fun p => !s.comp.group.get p || s.comp.marks.get p

/-- R12: STARVED: starve-close is on, a queue holds an unplaced item, and every such port is held. -/
def closeStarved (s : State) : Bool :=
  s.comp.starveClose && allPorts.any (fun p => (s.docs.queues.get p).hasUnplaced)
    && allPorts.all fun p => !(s.docs.queues.get p).hasUnplaced || s.comp.heldFlags.get p

/-- R12: the close reason that a test finds, in the order FULL, BARRIER, STARVED. -/
def closeReason (s : State) : Option CloseReason :=
  match s.index.current with
  | none => none
  | some r =>
    if closeFull r then some .full
    else if closeBarrier s then some .barrier
    else if closeStarved s then some .starved
    else none

/-- R12: in OPEN the close conditions are tested. -/
def closeTest (s : State) : State :=
  if s.comp.sheet = .open then
    match closeReason s with
    | some reason => enterClosing reason s
    | none => s
  else s

/-- The MARK items of a queue that its cursor has not reached. -/
def Queue.marksAhead (q : Queue) : Nat := (q.items.drop q.cursor).countP (· == .mark)

/-- R12, R16: a MARK has been taken since an earlier state; the port may have stood in the mark set before. -/
def marksTaken (before s : State) : Bool :=
  allPorts.any fun p => decide ((s.docs.queues.get p).marksAhead < (before.docs.queues.get p).marksAhead)

/-- R12: within a run the close conditions are tested if a held flag has changed since an earlier state or a MARK has
been taken; a cursor that moves forward otherwise is tested for at the run's end (3.8, step 5). -/
def closeIfChanged (before s : State) : State :=
  if before.comp.heldFlags = s.comp.heldFlags ∧ !marksTaken before s then s else closeTest s

/-! ## The run of the arbiter (R49, R50, R60) -/

/-- R49, R57: an event of the retake list starts a run, or sends the run in progress back to its retake phase. -/
def triggerRetakes (s : State) : State :=
  if s.comp.sheet = .open ∨ s.comp.sheet = .closing then
    match s.comp.run with
    | none => { s with comp := { s.comp with run := some ⟨true, s.comp.pointer, 0⟩ } }
    | some r => { s with comp := { s.comp with run := some { r with retakes := true } } }
  else s

/-- R49, R50: an event that frees frames, clears a hold or brings an item to a cursor starts a run, or restarts
the count of considerations of the run in progress. -/
def triggerPorts (s : State) : State :=
  if s.comp.sheet = .open ∨ s.comp.sheet = .closing then
    match s.comp.run with
    | none => { s with comp := { s.comp with run := some ⟨true, s.comp.pointer, 0⟩ } }
    | some r => { s with comp := { s.comp with run := some { r with count := 0 } } }
  else s

/-- Replace the run in progress. -/
def setRun (r : Option ArbRun) (s : State) : State := { s with comp := { s.comp with run := r } }

/-- The run in progress stands at its next step, if it has one. -/
def reachStep (s : State) : State :=
  match s.comp.run, s.index.current with
  | some run, some r => setRun (nextRun s r run) s
  | _, _ => s

/-- R13, R50: in CLOSING the arbiter serves the retake list for as long as it can grant (log entry 14). -/
def serveRetakes (s : State) : State :=
  match s.comp.run, s.index.current with
  | none, some r =>
    if s.comp.sheet = .closing ∧ (retakeStep s r).isSome then setRun (some ⟨true, s.comp.pointer, 0⟩) s else s
  | _, _ => s

/-- R57, R60: the run in OPEN comes to a port that is passed over, a data frame being FREE. -/
def passesPort (s : State) (run : ArbRun) : Bool :=
  s.comp.sheet == .open && decide (run.count < 4) && passedOver s run.port
    && (match s.index.current with
        | some r => !r.freeFrames.isEmpty && !(run.retakes && (retakeStep s r).isSome)
        | none => false)

/-- R60: a consideration without a grant: the phase goes on to the next port. -/
def passPort (run : ArbRun) (s : State) : State :=
  setRun (some ⟨false, run.port.next, run.count + 1⟩) s

/-! ## From CLOSING to FINISHING (R18, R19) -/

/-- R19, R50: entry to INDEXING: a run ends, the pages are rendered, the index frames become READY. -/
def enterIndexing (r : SheetRec) (s : State) : State :=
  let rendered := renderSheet s.index.template r
  let s := modCurrent (fun r =>
    { r with
      title := .pending
      frames := r.frames.map fun f => if f.kind = .index then { f with state := .ready } else f }) s
  { s with
    comp := { s.comp with sheet := .indexing, run := none }
    index := { s.index with rendered := some rendered } }

/-- R19: a retake could be placed on this sheet. -/
def retakePlaceable (s : State) (r : SheetRec) : Bool :=
  s.comp.retakes.any (fun t => pageComplete s t.page) && !r.freeFrames.isEmpty && !r.indexFull

/-- R8, R19: the frame waits for its exposure or is in progress. -/
def FrameRec.pendingExposure (f : FrameRec) : Bool :=
  f.state == .placed || f.state == .ready || f.state == .exposing || f.state == .paused

/-- R18: in CLOSING the completion timer stops when no frame is PLACED with a page that is not COMPLETE. -/
def stopCompletion (s : State) : State :=
  if s.comp.sheet = .closing ∧ !awaitsCompletion s then { s with comp := { s.comp with completion := none } } else s

/-- R19: the passage from CLOSING to INDEXING. -/
def passageTest (s : State) : State :=
  match s.index.current with
  | none => s
  | some r =>
    if s.comp.sheet = .closing ∧ !(r.frames.any FrameRec.pendingExposure) ∧ s.comp.completion = none
        ∧ !retakePlaceable s r then enterIndexing r s
    else s

/-- R19: every index frame and the title have an outcome. -/
def indexDone (r : SheetRec) : Bool :=
  r.frames.all (fun f => f.kind != .index || f.state == .exposed || f.state == .spoiled) && r.title != .pending

/-- R19: the passage from INDEXING to FINISHING asks for the finishing advance and cut. -/
def finishTest (s : State) : State :=
  match s.index.current with
  | none => s
  | some r =>
    if s.comp.sheet = .indexing ∧ indexDone r then
      enqueueOp .finishing { s with comp := { s.comp with sheet := .finishing } }
    else s

/-! ## Opening (R2, R10, R151) -/

/-- R2: a port's cursor item is a document, or a retake waits whose page is COMPLETE. -/
def workWaits (s : State) : Bool :=
  allPorts.any (fun p => (cursorDoc s p).isSome) || s.comp.retakes.any fun t => pageComplete s t.page

/-- R9: the greatest serial. -/
def lastSerial : Nat := 99999999

/-- R162: the frame table of a new sheet record. -/
def freshFrames (l : Layout) : List FrameRec :=
  List.replicate l.dataFrames ⟨.free, .data, none, none⟩ ++ List.replicate (l.frames - l.dataFrames) ⟨.free, .index, none, none⟩

/-- R4: a layout that stands for an entry that the table does not hold (the table always holds four). -/
def noLayout : Layout := ⟨1, 1, 0, 12, 2000, 2000, .off⟩

/-- R151: the film count is decremented by 1; at 10 FILM_LOW goes to every BUREAU port. -/
def takeSheetOfFilm (s : State) : State :=
  let count := s.film.count - 1
  let s := { s with film := { s.film with count := count } }
  if count = 10 then notifyBureau (.filmLow 10 s.film.lot) s else s

/-- R2, R108: the Dose Unit latches the sheet-scope settings. -/
def latchSheet (s : State) : State :=
  { s with dose := { s.dose with sheet := ⟨s.dose.bankSel, s.dose.response, s.film.factor⟩ } }

/-- R2: the current sheet record as it is created. -/
def newRecord (s : State) : SheetRec :=
  let l := s.comp.layouts.getD s.comp.nextLayout noLayout
  { serial := s.comp.nextSerial, layoutNo := s.comp.nextLayout, layout := l, lot := s.film.lot, bank := s.dose.sheet.bank
    status := .opened, reason := none, frames := freshFrames l, entries := [], revision := 0, title := .pending
    titleReport := none }

/-- R2: entry to OPENING. -/
def enterOpening (s : State) : State :=
  let s := takeSheetOfFilm (latchSheet s)
  let s := { s with
    index := { s.index with current := some (newRecord s) }
    comp := { s.comp with
      sheet := .opening, greatest := s.comp.nextSerial, nextSerial := s.comp.nextSerial + 1, write := .writing
      firstGrant := none, advanced := false, finishDue := false } }
  enqueueOp .opening s

/-- R2, R10: in IDLE the opening conditions are tested. With the serials exhausted SERIAL joins the halt list with
the exhausted mark, once per load of film. -/
def openTest (s : State) : State :=
  if s.comp.sheet = .idle ∧ s.comp.halts = [] ∧ workWaits s then
    if s.comp.nextSerial ≤ lastSerial then enterOpening s
    else if s.comp.exhausted then s
    else addHalt .serial { s with comp := { s.comp with exhausted := true } }
  else s

/-- R3: entry to OPEN. -/
def enterOpen (s : State) : State :=
  let s := { s with comp := { s.comp with
    sheet := .open, marks := s.comp.pendingMarks, pendingMarks := noPorts, heldFlags := everyPort false } }
  let s := match s.index.current with
    | some r => notifyAll (.sheetOpened r.serial r.layoutNo) s
    | none => s
  triggerPorts s

/-- R3: OPENING passes to OPEN when the opening advance has completed and the serial write has verified. -/
def openIfReady (s : State) : State :=
  if s.comp.sheet = .opening ∧ s.comp.advanced ∧ s.comp.write = .verified then enterOpen s else s

/-! ## After an event -/

/-- What the Composer and the transport do after an event that may have changed their conditions: waiting retakes are
served in CLOSING (R13), the passages are tested (R18, R19, R2), and the transport tests its head (R147). A run of the
arbiter in progress stands where it is: it goes on at its own events and at ticks (R50, log entry 14). -/
def settle (s : State) : State := pump (openTest (finishTest (passageTest (stopCompletion (serveRetakes s)))))

/-- R12, R50: the run ends: in OPEN the close conditions are tested, in CLOSING the passage to INDEXING. -/
def endRun (s : State) : State := settle (closeTest (setRun none s))

/-- R50, R60: with no event to take, the run in progress passes over a port, ends if it has no step left, or stands at
its next step, which is an event of its own (log entry 14). -/
def goOn (s : State) : State :=
  match s.comp.run with
  | none => s
  | some run =>
    if passesPort s run then passPort run s
    else if (nextStep s).isSome then s
    else endRun s

/-- R23, R147: a cause leaves the halt list; the transport and the opening conditions are tested again. -/
def liftHalt (c : HaltCause) (s : State) : State := pump (openTest (dropHalt c s))

end Sys2Proof.Machine
end

