-- ==== Sys2Proof/Machine/WriterOps.lean ====
section
/-! DEFINITION. The Frame Writer: choosing and starting a frame, lines, pauses, the end and the spoil of a frame
(chapter 6). -/

namespace Sys2Proof.Machine

/-! ## The frame in progress -/

/-- The frame record of the frame in progress, if it is a frame. -/
def writerFrame (s : State) : Option FrameRec :=
  match s.writer.site with
  | some (.frame n) => frameOf s n
  | _ => none

/-- The page reference of the frame in progress, if it carries a page. -/
def writerRef (s : State) : Option PageRef := (writerFrame s).bind (·.ref)

/-- The page of the frame in progress. -/
def writerPage (s : State) : Option Page := (writerRef s).bind fun r => tableGet s.store.pages r.page

/-- R71: the page of the frame in progress, if there is one, lies in the block memory. -/
def writerMapped (s : State) : Bool :=
  match writerPage s with
  | some pg => pageMapped pg
  | none => true

/-- Change the writer. -/
def modWriter (f : Writer → Writer) (s : State) : State := { s with writer := f s.writer }

/-- Change the report under construction. -/
def modReport (f : Report → Report) (s : State) : State :=
  modWriter (fun w => { w with report := w.report.map f }) s

/-- R8: change the record of the frame in progress; the title has none. -/
def modWriterFrame (f : FrameRec → FrameRec) (s : State) : State :=
  match s.writer.site with
  | some (.frame n) => modCurrent (SheetRec.modFrame n f) s
  | _ => s

/-! ## Choosing and starting a frame (R117 to R119) -/

/-- The lowest number of a frame that is READY and satisfies a test, counted from `n`. -/
def lowestReady (p : FrameRec → Bool) : List FrameRec → Nat → Option Nat
  | [], _ => none
  | f :: fs, n => if f.state = .ready ∧ p f then some n else lowestReady p fs (n + 1)

/-- R117: the frame that the Writer chooses. -/
def selectSite (s : State) : Option Site :=
  match s.index.current with
  | none => none
  | some r =>
    match s.comp.sheet with
    | .open | .closing => (lowestReady (fun f => f.kind != .index) r.frames 0).map .frame
    | .indexing =>
      match lowestReady (fun f => f.kind == .index) r.frames 0 with
      | some n => some (.frame n)
      | none => if r.title = .pending then some .title else none
    | .unloaded | .idle | .opening | .finishing => none

/-- R107: the Dose Unit latches the frame-scope settings; for a data frame also its owner's tone map. -/
def latchFrame (owner : Option Port) (s : State) : State :=
  let d := s.dose
  let tone := match owner with | some p => d.tones.get p | none => d.frame.tone
  { s with dose := { d with frame := ⟨d.gain, d.dotTime, d.glyphTone, d.cellTone, tone⟩ } }

/-- R97, R98: the geometry of a site of the sheet in the stage; that of a data frame is its page's. -/
def siteGeometry (s : State) (r : SheetRec) (site : Site) (ref : Option PageRef) : Geometry :=
  match site, ref with
  | .title, _ => titleGeometry
  | .frame _, none => indexGeometry r.layout
  | .frame _, some x => ((tableGet s.store.pages x.page).bind (pageGeometry · r.layout)).getD noGeometry

/-- R119: the report as it is opened. -/
def openReport (g : Geometry) (streamed : Bool) : Report :=
  { width := g.width, height := g.height, scale := g.scale, pitch := g.pitch, ox := g.ox, oy := g.oy
    pStart := 0, pMin := 0, pMax := 0, lines := 0, saturated := 0, isSaturated := false, isDrift := false
    isStreamed := streamed, cause := none }

/-- R134: the page of a data frame is RECEIVING. -/
def refReceiving (s : State) (ref : Option PageRef) : Bool :=
  match ref with
  | some x => (match tableGet s.store.pages x.page with | some pg => pg.state == .receiving | none => false)
  | none => false

/-- R125: the imprint of a site: a data frame's, unless the layout's imprint is OFF. -/
def siteImprint (s : State) (r : SheetRec) (site : Site) (ref : Option PageRef) : Option Text :=
  match site, ref with
  | .frame n, some x =>
    if r.layout.imprint = .off then none
    else some (imprintText r.serial r.layout n ((docOf s x.doc).map (·.key) |>.getD []))
  | _, _ => none

/-- R118, R119: the Composer takes the start of a site: the frame becomes EXPOSING and the Writer's frame in
progress; settings, geometry, report, imprint and drift limit are taken; the stage move is asked for. -/
def startSite (r : SheetRec) (site : Site) (s : State) : State :=
  let ref := match site with
    | .frame n => (r.frames[n]?).bind (·.ref)
    | .title => none
  let g := siteGeometry s r site ref
  let w : Writer := { idleWriter .moving with
    site := some site, report := some (openReport g (refReceiving s ref)), geometry := g
    imprint := siteImprint s r site ref, drift := s.beam.drift }
  let s := latchFrame (ref.map (·.owner)) s
  let s := modWriterFrame (fun f => { f with state := .exposing }) { s with writer := w }
  pump (enqueueOp (.stageMove (sitePlace r.layout site) true) s)

/-! ## Lines (R122) -/

/-- R99, R100: the tones of written line j of a data frame. -/
def dataTones (s : State) (side : Imprint) (pg : Page) (j : Nat) : List Nat :=
  let w := s.writer
  let d := s.dose
  (List.range w.geometry.width).map fun i =>
    overlaidTone d.frame (overlayAt side w.imprint w.geometry j i)
      (pixelTone d.frame.tone pg.depth (pixelAt pg s.store.memory (sourceRow pg j i) (sourceColumn pg j i)))

/-- R99, R122: the tones of line j of the site in progress. -/
def siteTones (s : State) (r : SheetRec) (j : Nat) : List Nat :=
  let cols := List.range s.writer.geometry.width
  match s.writer.site with
  | none => []
  | some .title =>
    let lines := (s.index.rendered.map (·.title)).getD []
    cols.map fun i => syntheticTone (titlePixel lines j i)
  | some (.frame n) =>
    match writerPage s with
    | some pg => dataTones s r.layout.imprint pg j
    | none =>
      let lines := ((s.index.rendered.bind fun x => x.pages[n - r.layout.dataFrames]?)).getD []
      cols.map fun i => syntheticTone (indexPixel lines j i)

/-- The tones of the Writer's line. -/
def writerTones (s : State) : List Nat :=
  match s.index.current with
  | some r => siteTones s r s.writer.line
  | none => []

/-- R122: steps 3 to 5 of a line: its pulses are computed, its saturated number is added, its dots begin. -/
def beginDots (s : State) : State :=
  let tones := writerTones s
  let p := s.writer.lineP.getD 0
  let pulses := linePulses s.dose p tones
  let sat := lineSaturated s.dose p tones
  modReport (Report.addSaturated sat)
    (modWriter (fun w => { w with phase := .dots, pulses := pulses, lineStart := s.now }) s)

/-- R128: the Writer cancels the pause timer, clears the wait and asks for a resume sample. -/
def askResume (s : State) : State :=
  let s := modWriter (fun w => { w with pause := none, sample := some .resume }) s
  joinMeasurement .writer { s with store := { s.store with wait := none } }

/-- R128: the Writer judges a rows-arrived report of the waited page against its needed row. -/
def rowsArrived (page received : Nat) (s : State) : State :=
  match s.store.wait with
  | some w => if w.page = page ∧ w.row < received ∧ s.writer.mode = .paused then askResume s else s
  | none => s

/-- R83, R127: the Writer pauses before its line: the frame is PAUSED, the wait is set (and the store reports at
once if the row has been counted), ROWS_WANTED goes to the owner, the pause timer starts. -/
def pauseFrame (ref : PageRef) (received row : Nat) (s : State) : State :=
  let s := modWriterFrame (fun f => { f with state := .paused }) s
  let s := modWriter (fun w =>
    { w with mode := .paused, phase := .due, pause := some ⟨s.now, s.comp.pauseLimit⟩ }) s
  let s := { s with store := { s.store with wait := some ⟨ref.page, row⟩ } }
  rowsArrived ref.page received (notify ref.owner (.rowsWanted ref.page row received) s)

/-- R122, R127, R145: the Writer goes on with its line: it pauses if a page row the line draws on has not arrived;
it waits while a measurement is in flight; otherwise the dots begin. -/
def tryLine (s : State) : State :=
  match writerRef s, writerPage s with
  | some ref, some pg =>
    match missingRow pg s.writer.line with
    | some row => kickBeam (pauseFrame ref pg.received row s)
    | none => if s.beam.inFlight.isSome then s else beginDots s
  | _, _ => if s.beam.inFlight.isSome then s else beginDots s

/-! ## The end of a frame (R130 to R132) -/

/-- R8, R130, R131: a site has its outcome and its report. -/
def recordOutcome (site : Site) (spoiled : Bool) (report : Option Report) (s : State) : State :=
  match site with
  | .frame n =>
    modCurrent (SheetRec.modFrame n fun f =>
      { f with state := if spoiled then .spoiled else .exposed, report := report }) s
  | .title =>
    modCurrent (fun r => { r with title := if spoiled then .spoiled else .exposed, titleReport := report }) s

/-- R116, R130, R131, R138: the Writer has no frame in progress: the laser is off, the timer and the wait are
cleared, it withdraws from the measurements and gives up its move. -/
def releaseWriter (s : State) : State :=
  let s := withdraw .writer (giveUpMoves s)
  { s with
    writer := idleWriter (restMode s)
    store := { s.store with wait := none } }

/-- R130, R31: the frame in progress ends: EXPOSED with its report; the page's outcome is EXPOSED. -/
def endFrame (s : State) : State :=
  match s.writer.site with
  | none => s
  | some site =>
    let ref := writerRef s
    let s := recordOutcome site false (s.writer.report.map (Report.close none)) s
    let s := match ref with
      | some x => modDoc x.doc (Doc.modPage x.index fun m => { m with outcome := .exposed }) s
      | none => s
    kickBeam (releaseWriter s)

/-- R56: the new spoil count of a page, and what follows. -/
def spoilOutcome (d : Doc) (count : Nat) : SpoilOutcome :=
  if 3 ≤ count then .pageLost else if d.state.isFinal then .neither else .retakeAdded

/-- The spoil count of page number i of a document. -/
def Doc.spoils (d : Doc) (i : Nat) : Nat := ((d.pages[i - 1]?).map (·.2.spoils)).getD 0

/-- R31, R56: a spoil with a fault cause raises the page's spoil count; a retake joins the list, or the page is
LOST, or neither. FRAME_SPOILED goes to the owner. -/
def accountSpoil (ref : PageRef) (serial n : Nat) (cause : SpoilCause) (s : State) : State :=
  match docOf s ref.doc with
  | none => notify ref.owner (.frameSpoiled serial n ref.doc ref.index cause .neither) s
  | some d =>
    let count := d.spoils ref.index + 1
    let outcome := spoilOutcome d count
    let s := modDoc ref.doc (Doc.modPage ref.index fun m =>
      { spoils := count, outcome := if outcome = .pageLost then .lost else m.outcome }) s
    let s := if outcome = .retakeAdded then
        { s with comp := { s.comp with retakes := s.comp.retakes ++
            [⟨ref.page, ref.doc, ref.owner, ref.index, count, serial, n⟩] } }
      else s
    notify ref.owner (.frameSpoiled serial n ref.doc ref.index cause outcome) s

/-- R56, R131: the accounts of a spoiled site: those of a data frame by its cause; a synthetic page has none. -/
def accountSite (site : Site) (ref : Option PageRef) (serial : Nat) (cause : SpoilCause) (s : State) : State :=
  match site, ref with
  | .frame n, some x =>
    if cause = .abort then notify x.owner (.frameSpoiled serial n x.doc x.index .abort .neither) s
    else accountSpoil x serial n cause s
  | _, _ => s

/-- R131: the frame in progress, if there is one, is spoiled with a cause. -/
def spoilFrame (cause : SpoilCause) (s : State) : State :=
  match s.writer.site, s.index.current with
  | some site, some r =>
    let ref := writerRef s
    let s := recordOutcome site true (s.writer.report.map (Report.close (some cause))) s
    kickBeam (releaseWriter (accountSite site ref r.serial cause s))
  | _, _ => s

/-- R49, R56, R131: the frame in progress, if there is one, is spoiled with a fault cause; a retake that joins
the list starts a run. -/
def faultFrame (cause : SpoilCause) (s : State) : State :=
  let before := s.comp.retakes
  let s := spoilFrame cause s
  if s.comp.retakes = before then s else triggerRetakes s

/-- R120: the start is undone: the frame is READY again, the report is discarded, BEAM joins the halt list. -/
def undoStart (s : State) : State :=
  let s := modWriterFrame (fun f => { f with state := .ready }) s
  kickBeam (addHalt .beam (releaseWriter s))

end Sys2Proof.Machine
end

