-- ==== Sys2Proof/Machine/Sheets.lean ====
section
/-! DEFINITION. The commands of the sheet: layouts, serials, limits, halts, closing, aborting and finishing
(chapter 1). -/

namespace Sys2Proof.Machine

/-- SELECT_LAYOUT (R5). -/
def execSelectLayout (p : Port) (tag entry : Nat) (s : State) : Result :=
  request p .selectLayout tag s fun s =>
    if entry ≤ 3 then
      answer p .selectLayout tag .ok (u8 entry) { s with comp := { s.comp with nextLayout := entry } }
    else answer p .selectLayout tag .badValue [] s

/-- R4, R6: a complete set of layout fields within their ranges, or none. -/
def checkedLayout (rows cols index red width height imprint : Nat) : Option Layout :=
  match imprintOfCode imprint with
  | none => none
  | some im =>
    if inRange 1 12 rows && inRange 1 24 cols && inRange 1 4 index && inRange 12 64 red && inRange 2000 30000 width
        && inRange 2000 30000 height && decide (rows * cols ≤ 208) && decide (index < rows * cols) then
      some ⟨rows, cols, index, red, width, height, im⟩
    else none

/-- SET_LAYOUT (R6). -/
def execSetLayout (p : Port) (tag entry rows cols index red width height imprint : Nat) (s : State) : Result :=
  request p .setLayout tag s fun s =>
    match checkedLayout rows cols index red width height imprint with
    | some l =>
      if entry ≤ 3 then
        answer p .setLayout tag .ok (u8 l.dataFrames ++ u16 l.capacity)
          { s with comp := { s.comp with layouts := s.comp.layouts.set entry l } }
      else answer p .setLayout tag .badValue [] s
    | none => answer p .setLayout tag .badValue [] s

/-- CLOSE_SHEET (R15). -/
def execCloseSheet (p : Port) (tag : Nat) (s : State) : Result :=
  request p .closeSheet tag s fun s =>
    match s.comp.sheet with
    | .open => answer p .closeSheet tag .ok [] (settle (enterClosing .forced s))
    | .unloaded => answer p .closeSheet tag .noFilm [] s
    | .idle | .opening | .closing | .indexing | .finishing => answer p .closeSheet tag .wrongState [] s

/-- R22, R179: the halt condition as a reply carries it; NONE is an absent value (log entry 21). -/
def haltField (s : State) : List Byte := optField (fun c => u8 (haltCode c)) s.comp.halts.head?

/-- HALT (R22). -/
def execHalt (p : Port) (tag : Nat) (s : State) : Result :=
  request p .halt tag s fun s =>
    let s := addHalt .manual s
    answer p .halt tag .ok (haltField s) s

/-- R23, R158: RESUME of STAGE or TRANSPORT removes the cause and sets the re-home flag. -/
def resumeMotion (c : HaltCause) (s : State) : State :=
  liftHalt c { s with film := { s.film with rehome := true } }

/-- R23: what RESUME does by the cause at the head of the halt list. -/
def resumeHead (p : Port) (tag : Nat) (s : State) : State :=
  match s.comp.halts.head? with
  | none => answer p .resume tag .wrongState [] s
  | some .manual => answer p .resume tag .ok [] (liftHalt .manual s)
  | some .beam => joinMeasurement (.port p) (setBusy p (.resumeBeam tag) s)
  | some .stage => answer p .resume tag .ok [] (resumeMotion .stage s)
  | some .transport => answer p .resume tag .ok [] (resumeMotion .transport s)
  | some .serial =>
    match s.comp.write with
    | .failed => setBusy p (.resumeSerial tag) { s with comp := { s.comp with write := .writing } }
    | .writing => setBusy p (.resumeSerial tag) s
    | .none | .verified => answer p .resume tag .ok [] (liftHalt .serial s)

/-- RESUME (R23). -/
def execResume (p : Port) (tag : Nat) (s : State) : Result := request p .resume tag s (resumeHead p tag)

/-! ## Aborting (R24 to R26, R36, R153) -/

/-- R8, R24: a PLACED or READY frame of an aborted sheet is VOID. -/
def FrameRec.abandoned (f : FrameRec) : FrameRec :=
  if f.state = .placed ∨ f.state = .ready then { f with state := .void } else f

/-- R26: what a frame of the aborted sheet did to its page is undone. -/
def PageMark.undo (f : FrameRec) (m : PageMark) : PageMark :=
  match f.state with
  | .exposed => { m with outcome := .none }
  | .spoiled =>
    if f.report.bind (·.cause) = some .abort then m
    else { spoils := m.spoils - 1, outcome := if m.outcome = .lost ∧ 3 ≤ m.spoils then .none else m.outcome }
  | _ => m

/-- R26: the outcome and the spoil that a frame of the aborted sheet recorded on its page are undone. -/
def undoMark (s : State) (f : FrameRec) : State :=
  match f.ref with
  | some x => modDoc x.doc (Doc.modPage x.index (PageMark.undo f)) s
  | none => s

/-- R26: the outcomes and spoils recorded on the aborted sheet are undone. -/
def undoOutcomes (frames : List FrameRec) (s : State) : State := frames.foldl undoMark s

/-- The document under a handle is not final. -/
def docWorking (s : State) (h : Nat) : Bool :=
  match docOf s h with
  | some d => !d.state.isFinal
  | none => false

/-- R26: the retake that a RETAKE entry of the aborted sheet gives back: its spoil lies on an earlier sheet and its
document is not final. -/
def returnedRetake (s : State) (serial : Nat) (e : Entry) : Option Retake :=
  match e.kind, e.spoiled, docOf s e.doc with
  | .retake, some (sp, fr), some d =>
    if sp = serial ∨ d.state.isFinal then none
    else
      match d.pages[e.firstPage - 1]? with
      | some x => some ⟨x.1, e.doc, e.owner, e.firstPage, e.num, sp, fr⟩
      | none => none
  | _, _, _ => none

/-- R26: the retake list after an abort: the returned retakes at its head; those of spoils on the sheet gone. -/
def undoRetakes (r : SheetRec) (s : State) : State :=
  let back := r.entries.filterMap (returnedRetake s r.serial)
  { s with comp := { s.comp with retakes := back ++ s.comp.retakes.filter (·.serial != r.serial) } }

/-- R26: the documents with a NORMAL entry on the sheet that are not final. -/
def requeuedDocs (r : SheetRec) (s : State) : List Entry :=
  r.entries.filter fun e => e.kind == .normal && docWorking s e.doc

/-- R26, R36: a document loses the pages of its entry on the aborted sheet. -/
def Doc.unplace (pages : Nat) (d : Doc) : Doc :=
  { d with placed := d.placed - pages, state := if d.placed - pages = 0 then .queued else .placing }

/-- R26, R36: documents, sheet lists and cursors. -/
def undoDocs (r : SheetRec) (s : State) : State :=
  let s := (requeuedDocs r s).foldl (fun s e => modDoc e.doc (Doc.unplace e.pageCount) s) s
  { s with docs := { s.docs with table := s.docs.table.map fun x =>
      (x.1, { x.2 with sheets := x.2.sheets.filter (·.serial != r.serial) }) } }

/-- R26, R36: where the cursor of a queue moves back to: the earliest item among some documents, if it stands
before the cursor. -/
def moveBackTo (docs : List Nat) (q : Queue) : Option Nat :=
  match q.items.findIdx? (fun i => match i with | .doc h => docs.contains h | .mark => false) with
  | some i => if i < q.cursor then some i else none
  | none => none

/-- R16, R26, R36: the cursor of a port moves back, or the port's discarded mark joins the pending set; then the
cursor runs forward again. -/
def undoPort (docs : List Nat) (marks : PerPort Bool) (p : Port) (s : State) : State :=
  match moveBackTo docs (s.docs.queues.get p) with
  | some i =>
    let s := { s with comp := { s.comp with pendingMarks := s.comp.pendingMarks.set p false } }
    advanceCursor p (modQueue p (fun q => { q with cursor := i }) s)
  | none =>
    if marks.get p then { s with comp := { s.comp with pendingMarks := s.comp.pendingMarks.set p true } } else s

/-- R26: an abort undoes what the sheet did to documents, retakes and marks. -/
def undoSheet (r : SheetRec) (s : State) : State :=
  let docs := (requeuedDocs r s).map (·.doc)
  let marks := s.comp.marks
  let s := undoDocs r (undoRetakes r (undoOutcomes r.frames s))
  let s := { s with comp := { s.comp with marks := noPorts } }
  allPorts.foldl (fun s p => undoPort docs marks p s) s

/-- R24: the record of an aborted sheet: frames and entries are VOID, the status is ABORTED. -/
def SheetRec.abort (r : SheetRec) : SheetRec :=
  { r with
    frames := r.frames.map FrameRec.abandoned
    entries := r.entries.map fun e => { e with mark := some .void }
    status := .aborted }

/-- R24: the timers stop, the run ends and the sheet state is FINISHING. -/
def stopSheet (s : State) : State :=
  { s with comp := { s.comp with sheet := .finishing, age := none, completion := none, run := none } }

/-- R24, R26: an abort taken in OPEN, CLOSING or INDEXING. -/
def abortPlaced (s : State) : State :=
  let s := stopSheet (spoilFrame .abort s)
  match s.index.current with
  | none => s
  | some r => pump (enqueueOp .finishing (undoSheet r (modCurrent SheetRec.abort s)))

/-- R25, R153: an abort taken in OPENING. -/
def abortOpening (s : State) : State :=
  let s := stopSheet (modCurrent SheetRec.abort s)
  let s := { s with film := { s.film with
    queue := s.film.queue.filter (· != .opening)
    heldOp := if s.film.heldOp = some .opening then none else s.film.heldOp } }
  pump (if s.comp.write = .verified then enqueueOp .finishing s
    else { s with comp := { s.comp with finishDue := true } })

/-- ABORT_SHEET (R24). -/
def execAbortSheet (p : Port) (tag : Nat) (s : State) : Result :=
  request p .abortSheet tag s fun s =>
    match s.comp.sheet with
    | .opening => answer p .abortSheet tag .ok [] (abortOpening s)
    | .open | .closing | .indexing => answer p .abortSheet tag .ok [] (abortPlaced s)
    | .finishing => answer p .abortSheet tag .tooLate [] s
    | .idle => answer p .abortSheet tag .wrongState [] s
    | .unloaded => answer p .abortSheet tag .noFilm [] s

/-! ## Limits, close group, serial -/

/-- A second in ticks of 10 ns (1.7). -/
def second : Nat := 100000000

/-- R20: an age limit as it is stored. -/
def storedAge (n : Nat) : Nat := if n = 0 then 0 else clamp 30 14400 n

/-- R14: the reason of a sheet that its age closes: FULL where a grant has made FULL true, otherwise AGE. -/
def ageReason (s : State) : CloseReason :=
  match s.index.current with
  | some r => if closeFull r then .full else .age
  | none => .age

/-- R20: the new age limit acts on the sheet that is OPEN and holds a placement; a sheet whose placements have all been
cancelled counts as holding one (log entry 40). -/
def applyAge (s : State) : State :=
  match s.comp.firstGrant with
  | none => s
  | some t =>
    if s.comp.sheet ≠ .open then s
    else if s.comp.ageLimit = 0 then { s with comp := { s.comp with age := none } }
    else if t + s.comp.ageLimit * second ≤ s.now then enterClosing (ageReason s) s
    else { s with comp := { s.comp with age := some t } }

/-- R18: each frame still PLACED becomes VOID. -/
def FrameRec.expire (f : FrameRec) : FrameRec := if f.state = .placed then { f with state := .void } else f

/-- R18: the documents that own a frame still PLACED, in the order of their lowest such frames (log entry 18), each
once. -/
def expiredDocs (frames : List FrameRec) : List Nat :=
  ((frames.filter (·.state == .placed)).filterMap fun f => f.ref.map (·.doc)).eraseDups

/-- R18: a document whose frame is voided becomes INCOMPLETE; so does its entry on the sheet. -/
def expireDoc (h : Nat) (s : State) : State :=
  let s := modCurrent (fun r => { r with entries := r.entries.map fun e =>
    if e.doc = h ∧ e.kind = .normal ∧ e.mark = none then { e with mark := some .incomplete } else e }) s
  finalizeDoc h .incomplete none s

/-- R18: the completion limit expires. -/
def expireCompletion (s : State) : State :=
  match s.index.current with
  | none => s
  | some r =>
    let s := modCurrent (fun r => { r with frames := r.frames.map FrameRec.expire }) s
    let s := { s with comp := { s.comp with completion := none } }
    triggerPorts (landHead s ((expiredDocs r.frames).foldl (fun s h => expireDoc h s) s))

/-- R20: the new completion limit acts on a running timer. -/
def applyCompletion (s : State) : State :=
  match s.comp.completion with
  | some t => if t + s.comp.completionLimit * second ≤ s.now then expireCompletion s else s
  | none => s

/-- SET_LIMITS (R20). The limits act on the running timers first, and the close conditions are tested after (log entry
42). -/
def execSetLimits (p : Port) (tag pause completion age : Nat) (starve : Bool) (s : State) : Result :=
  request p .setLimits tag s fun s =>
    let s := { s with comp := { s.comp with
      pauseLimit := clamp 1 60 pause, completionLimit := clamp 10 3600 completion, ageLimit := storedAge age
      starveClose := starve } }
    let body := u8 s.comp.pauseLimit ++ u16 s.comp.completionLimit ++ u16 s.comp.ageLimit ++ u8 (onOffCode starve)
    answer p .setLimits tag .ok body (settle (closeTest (applyAge (applyCompletion s))))

/-- SET_CLOSE_GROUP (R17). -/
def execSetCloseGroup (p : Port) (tag ports : Nat) (s : State) : Result :=
  request p .setCloseGroup tag s fun s =>
    match portSetOfCode ports with
    | some g =>
      answer p .setCloseGroup tag .ok (u8 (portSetCode g))
        (settle (closeTest { s with comp := { s.comp with group := g } }))
    | none => answer p .setCloseGroup tag .badValue [] s

/-- SET_SERIAL (R11). -/
def execSetSerial (p : Port) (tag value : Nat) (s : State) : Result :=
  request p .setSerial tag s fun s =>
    if s.comp.greatest < value ∧ value ≤ lastSerial then
      answer p .setSerial tag .ok (u32 value) { s with comp := { s.comp with nextSerial := value } }
    else answer p .setSerial tag .badValue (u32 s.comp.greatest) s

/-! ## Timers, the serial write, the finish -/

/-- The clock moves to no earlier than a time. -/
def reach (t : Nat) (s : State) : State := { s with now := max s.now t }

/-- AGE_TIMER_EXPIRY (R14). -/
def execAgeTimerExpiry (s : State) : Result :=
  match s.comp.age with
  | some t =>
    if s.comp.sheet = .open then
      .next (settle (enterClosing (ageReason s) (reach (t + s.comp.ageLimit * second) s)))
    else .next s
  | none => .next s

/-- COMPLETION_TIMER_EXPIRY (R18). -/
def execCompletionTimerExpiry (s : State) : Result :=
  match s.comp.completion with
  | some t => .next (settle (expireCompletion (reach (t + s.comp.completionLimit * second) s)))
  | none => .next s

/-- The RESUME of a port waits for the serial write. -/
def waitsForWrite (r : PortRec) : Option Nat :=
  match r.busy with
  | some (.resumeSerial tag) => some tag
  | _ => none

/-- R23: a port's RESUME that waits for the serial write is answered by its outcome. -/
def answerWriter (status : Status) (s : State) (p : Port) : State :=
  match waitsForWrite (s.ports.get p) with
  | some tag => setIdle p (answer p .resume tag status [] s)
  | none => s

/-- R23: every RESUME that waits for the serial write is answered by its outcome. -/
def answerWriters (status : Status) (s : State) : State := allPorts.foldl (answerWriter status) s

/-- R10, R23, R25, R3: the serial write has verified. RESUMED is raised before SHEET_OPENED (log entry 39). -/
def writeVerified (s : State) : State :=
  let serial := (s.index.current.map (·.serial)).getD s.comp.cell
  let s := { s with comp := { s.comp with write := .verified, cell := serial } }
  let s := if allPorts.any fun p => (waitsForWrite (s.ports.get p)).isSome then dropHalt .serial s else s
  let s := openIfReady (answerWriters .ok s)
  let s := if s.comp.finishDue then
      enqueueOp .finishing { s with comp := { s.comp with finishDue := false } }
    else s
  settle s

/-- R10, R23: the serial write has failed verification. -/
def writeFailed (s : State) : State :=
  answerWriters .wrongState (addHalt .serial { s with comp := { s.comp with write := .failed } })

/-- SERIAL_WRITE_COMPLETE (R10). -/
def execSerialWriteComplete (verified : Bool) (s : State) : Result :=
  if s.comp.write = .writing then .next (if verified then writeVerified s else writeFailed s) else .next s

/-- R160: a finished record joins the ring, which holds 64. -/
def pushRing (ring : List SheetRec) (r : SheetRec) : List SheetRec :=
  (if 64 ≤ ring.length then ring.drop 1 else ring) ++ [r]

/-- R27: a document that is PLACED becomes final at the finish of a FINISHED sheet. -/
def finishes (s : State) (h : Nat) (d : Doc) : Bool :=
  d.state == .placed && !(s.comp.retakes.any (·.doc == h))
    && d.pages.all fun x => x.2.outcome == .exposed || x.2.outcome == .lost

/-- R27: DONE when every page is EXPOSED, DAMAGED when any is LOST. -/
def finalState (d : Doc) : DocState :=
  if d.pages.any (fun x => x.2.outcome == .lost) then .damaged else .done

/-- R27: a document that finishes becomes final. -/
def finishDoc (s : State) (h : Nat) : State :=
  match docOf s h with
  | some d => if finishes s h d then finalizeDoc h (finalState d) none s else s
  | none => s

/-- R27: the documents become final, in handle order (log entry 18). -/
def finishDocs (s : State) : State := (s.docs.table.map (·.1)).foldl finishDoc s

/-- R27, R28: the records that may be released are released. -/
def reclaimDocs (s : State) : State := (s.docs.table.map (·.1)).foldl (fun s h => testRelease h s) s

/-- R27, R151: the Composer finishes the sheet. -/
def finishSheet (s : State) : State :=
  match s.index.current with
  | none => s
  | some r =>
    let aborted := r.status == .aborted
    let r := if aborted then r else { r with status := .finished }
    let s := { s with index := { s.index with current := none, ring := pushRing s.index.ring r, rendered := none } }
    let s := landHead s (reclaimDocs (if aborted then s else finishDocs s))
    let s := notifyAll (.sheetFinished r.serial aborted) s
    if s.film.count = 0 then
      { s with comp := { s.comp with sheet := .unloaded }, film := { s.film with film := .empty } }
    else { s with comp := { s.comp with sheet := .idle } }

/-- FINISHING_CUT_COMPLETE (R27, R153). -/
def execFinishingCutComplete (s : State) : Result :=
  if motionOp s = some .finishing then .next (settle (finishSheet (completeFilmOp .finishing s))) else .next s

/-- OPENING_ADVANCE_COMPLETE (R152, R153). -/
def execOpeningAdvanceComplete (s : State) : Result :=
  if motionOp s = some .opening then
    let s := completeFilmOp .opening s
    let s := { s with
      film := { s.film with gateDue := true, clamped := true }
      comp := { s.comp with advanced := true } }
    .next (settle (openIfReady s))
  else .next s

end Sys2Proof.Machine
end

