-- ==== Sys2Proof/Machine/BeamMonitor.lean ====
section
/-! DEFINITION. The commands and the event of the Beam Monitor (chapter 7). -/

namespace Sys2Proof.Machine

/-- MEASURE_BEAM (R142): the request joins the list for the next measurement; the port stays BUSY. -/
def execMeasureBeam (p : Port) (tag : Nat) (s : State) : Result :=
  request p .measureBeam tag s fun s => joinMeasurement (.port p) (setBusy p (.measureBeam tag) s)

/-- SET_BEAM_WINDOW (R143): both values are clamped; no measurement is taken. -/
def execSetBeamWindow (p : Port) (tag floorIndex driftLimit : Nat) (s : State) : Result :=
  request p .setBeamWindow tag s fun s =>
    let f := clamp 0 15 floorIndex
    let d := clamp 1 64 driftLimit
    answer p .setBeamWindow tag .ok (u8 f ++ u16 (beamFloor f) ++ u16 (returnFloor f) ++ u8 d)
      { s with beam := { s.beam with floorIndex := f, drift := d } }

/-! ## The completion of a measurement (R137, R140) -/

/-- R137: the length of a measurement, 2 µs in ticks. -/
def measurementTicks : Nat := 200

/-- R137, R140: the reading is judged under the window held now, the state is stored, and no requester is left in
the measurement that has completed. -/
def judged (reading : Nat) (s : State) : State :=
  { s with beam := { s.beam with
      state := judgeBeam s.beam.floorIndex s.beam.state reading, inFlight := none, serving := [], last := some reading } }

/-- R23, R142, R144: the reading and the beam state, as replies carry them. -/
def readingBody (reading : Nat) (s : State) : List Byte := u16 reading ++ u8 (beamStateCode s.beam.state)

/-- R142: the body of MEASURE BEAM's reply. -/
def measureBody (reading : Nat) (s : State) : List Byte :=
  readingBody reading s ++ u8 s.beam.floorIndex ++ u16 (beamFloor s.beam.floorIndex) ++ u8 s.beam.drift

/-- R23: a RESUME with BEAM at the head is answered by the beam state; IN_WINDOW removes BEAM. -/
def answerResume (p : Port) (tag reading : Nat) (s : State) : State :=
  if s.beam.state = .inWindow then setIdle p (answer p .resume tag .ok (readingBody reading s) (dropHalt .beam s))
  else setIdle p (answer p .resume tag .wrongState (readingBody reading s) s)

/-- R137: a port that waits for the reading is answered. -/
def answerReading (reading : Nat) (s : State) (p : Port) : State :=
  match (s.ports.get p).busy with
  | some (.measureBeam tag) => setIdle p (answer p .measureBeam tag .ok (measureBody reading s) s)
  | some (.resumeBeam tag) => answerResume p tag reading s
  | some (.resumeSerial _) | some (.putRows _) | none => s

/-- The ports among requesters. -/
def servedPorts (l : List Requester) : List Port :=
  l.filterMap fun r => match r with | .port p => some p | .writer => none

/-- R137: requests that joined during the measurement get the next one, which begins now. -/
def beginWaiting (s : State) : State := if s.beam.waiting.isEmpty then s else beginMeasurement s

/-! ## The Writer's samples (R120, R123, R128) -/

/-- R120: the starting reading enters the report. -/
def Report.started (p : Nat) (r : Report) : Report := { r with pStart := p, pMin := p, pMax := p }

/-- R120: the starting sample is IN_WINDOW: the Writer enters WRITING at line 0. -/
def startWriting (reading : Nat) (s : State) : State :=
  let s := modReport (Report.started reading) s
  tryLine (modWriter (fun w =>
    { w with
      mode := .writing, line := 0, lineP := some reading, phase := .due, sample := none
      threshold := driftThreshold reading w.drift }) s)

/-- R123, R124, R128: a reading IN_WINDOW is latched for the line to come and enters the report. -/
def latchReading (reading : Nat) (s : State) : State :=
  let s := modReport (fun r => (r.sampled reading).testDrift s.writer.threshold reading) s
  modWriter (fun w => { w with lineP := some reading, sample := none }) s

/-- R128: the frame resumes, and its line begins. -/
def resumeWriting (reading : Nat) (s : State) : State :=
  let s := modWriterFrame (fun f => { f with state := .exposing }) (latchReading reading s)
  tryLine (modWriter (fun w => { w with mode := .writing, phase := .due }) s)

/-- R123, R128, R131: a sample out of window after the start spoils the frame; BEAM joins the halt list. -/
def spoilBeam (reading : Nat) (s : State) : State :=
  addHalt .beam (faultFrame .beam (modReport (Report.sampled reading) s))

/-- R120, R123, R128: the Writer acts on its sample. -/
def writerSample (reading : Nat) (s : State) : State :=
  let ok := s.beam.state == .inWindow
  match s.writer.sample with
  | some .start => if ok then startWriting reading s else undoStart s
  | some .retrace => if ok then latchReading reading s else spoilBeam reading s
  | some .resume => if ok then resumeWriting reading s else spoilBeam reading s
  | none => s

/-- R145: a line that waited for the measurement goes on. -/
def dueLine (s : State) : State :=
  if s.writer.mode = .writing ∧ s.writer.phase = .due then tryLine s else s

/-- R137: a measurement completes with a reading. -/
def completeMeasurement (reading : Nat) (s : State) : State :=
  let served := s.beam.serving
  let s := (servedPorts served).foldl (answerReading reading) (judged reading s)
  let s := beginWaiting s
  settle (if .writer ∈ served then writerSample reading s else dueLine s)

/-- MEASUREMENT_COMPLETE (R136, R137, R140). -/
def execMeasurementComplete (power : Nat) (s : State) : Result :=
  match s.beam.inFlight with
  | none => .next s
  | some t =>
    if writerMapped s then .next (completeMeasurement (sensorReading power) (reach (t + measurementTicks) s))
    else .fault .noSuchBlock

end Sys2Proof.Machine
end

