-- ==== Sys2Proof/Machine/DoseUnit.lean ====
section
/-! DEFINITION. The commands that write the tables of the Dose Unit (R109 to R114). -/

namespace Sys2Proof.Machine

/-- R110, R111: a sheet is in the stage: OPENING, OPEN, CLOSING, INDEXING or FINISHING. -/
def sheetInStage (s : State) : Bool :=
  match s.comp.sheet with
  | .unloaded | .idle => false
  | .opening | .open | .closing | .indexing | .finishing => true

/-- Change the Dose Unit. -/
def modDose (f : DoseUnit → DoseUnit) (s : State) : State := { s with dose := f s.dose }

/-- R109: what SET TONE MAP does. -/
def setTone (p : Port) (tag port : Nat) (map : List Nat) (s : State) : State :=
  match portOfCode port with
  | none => answer p .setToneMap tag .badValue [] s
  | some q =>
    if (s.ports.get p).cls = .feeder ∧ q ≠ p then answer p .setToneMap tag .notOwner [] s
    else if map.length = 16 ∧ map.all (inRange 0 255) then
      answer p .setToneMap tag .ok (u8 (portCode q) ++ map.flatMap u8)
        (modDose (fun d => { d with tones := d.tones.set q map }) s)
    else answer p .setToneMap tag .badValue [] s

/-- SET_TONE_MAP (R109). -/
def execSetToneMap (p : Port) (tag port : Nat) (map : List Nat) (s : State) : Result :=
  request p .setToneMap tag s (setTone p tag port map)

/-- SET_OVERLAY_MAP (R114). -/
def execSetOverlayMap (p : Port) (tag glyph cell : Nat) (s : State) : Result :=
  request p .setOverlayMap tag s fun s =>
    if inRange 0 255 glyph && inRange 0 255 cell then
      answer p .setOverlayMap tag .ok (u8 glyph ++ u8 cell)
        (modDose (fun d => { d with glyphTone := glyph, cellTone := cell }) s)
    else answer p .setOverlayMap tag .badValue [] s

/-- R110, check 1. -/
def curveInRange (bank start count : Nat) (entries : List Nat) : Bool :=
  decide (bank ≤ 1) && inRange 1 64 count && decide (count = entries.length) && decide (start + count ≤ 256)

/-- R110, check 2: the bank is latched by the sheet in the stage. -/
def bankActive (s : State) (bank : Nat) : Bool := sheetInStage s && s.dose.sheet.bank == bank

/-- R110: an entry as it is stored. -/
def storedDensity (e : Nat) : Nat := min 2500 e

/-- R110: the entries of a bank with those from a start on replaced. -/
def overwrite (start : Nat) (entries curve : List Nat) : List Nat :=
  curve.take start ++ entries ++ curve.drop (start + entries.length)

/-- R110: a bank of the Dose Unit is written. -/
def writeBank (bank start : Nat) (entries : List Nat) (d : DoseUnit) : DoseUnit :=
  if bank = 0 then { d with bank0 := overwrite start entries d.bank0 }
  else { d with bank1 := overwrite start entries d.bank1 }

/-- WRITE_CURVE (R110). -/
def execWriteCurve (p : Port) (tag bank start count : Nat) (entries : List Nat) (s : State) : Result :=
  request p .writeCurve tag s fun s =>
    if !curveInRange bank start count entries then answer p .writeCurve tag .badValue [] s
    else if bankActive s bank then answer p .writeCurve tag .bankActive [] s
    else
      let stored := entries.map storedDensity
      answer p .writeCurve tag .ok (u8 bank ++ u8 start ++ listField u16 stored) (modDose (writeBank bank start stored) s)

/-- SELECT_CURVE_BANK (R111). -/
def execSelectCurveBank (p : Port) (tag bank : Nat) (s : State) : Result :=
  request p .selectCurveBank tag s fun s =>
    if bank ≤ 1 then
      answer p .selectCurveBank tag .ok
        (u8 bank ++ optField u8 (if sheetInStage s then some s.dose.sheet.bank else none))
        (modDose (fun d => { d with bankSel := bank }) s)
    else answer p .selectCurveBank tag .badValue [] s

/-- R112: the lowest i + 1, counted from `i`, at which a point is less than the one before it. -/
def firstFall : Nat → List Nat → Option Nat
  | i, x :: y :: l => if y < x then some (i + 1) else firstFall (i + 1) (y :: l)
  | _, _ => none

/-- SET_FILM_RESPONSE (R112). -/
def execSetFilmResponse (p : Port) (tag : Nat) (points : List Nat) (s : State) : Result :=
  request p .setFilmResponse tag s fun s =>
    match firstFall 0 points with
    | some i => answer p .setFilmResponse tag .badValue (u8 i) s
    | none =>
      if points.length = 26 ∧ points.all (inRange 0 65535) then
        answer p .setFilmResponse tag .ok [] (modDose (fun d => { d with response := points }) s)
      else answer p .setFilmResponse tag .badValue [] s

/-- SET_WRITER (R113). -/
def execSetWriter (p : Port) (tag gain dotTime : Nat) (s : State) : Result :=
  request p .setWriter tag s fun s =>
    if inRange 1 1023 gain && inRange 16 1023 dotTime then
      answer p .setWriter tag .ok (u16 gain ++ u16 dotTime)
        (modDose (fun d => { d with gain := gain, dotTime := dotTime }) s)
    else answer p .setWriter tag .badValue (u16 s.dose.gain ++ u16 s.dose.dotTime) s

end Sys2Proof.Machine
end

