-- ==== Sys2Proof/Machine/FilmTransport.lean ====
section
/-! DEFINITION. The commands and the events of the Film Transport (chapter 8). The completions of the opening
advance and of the finishing advance and cut stand with the sheet (Sheets.lean). -/

namespace Sys2Proof.Machine

/-! ## Loading and unloading (R148 to R150) -/

/-- R148: the sheet state and the film state accept a LOAD FILM. -/
def loadAccepted (s : State) : Bool :=
  (s.comp.sheet == .unloaded && s.film.film == .empty) || s.comp.sheet == .idle

/-- R148: what an accepted LOAD FILM stores and asks for. -/
def loadFilm (count : Nat) (lot : Text) (factor : Nat) (s : State) : State :=
  pump (enqueueOp .leaderIn
    { s with
      film := { s.film with
        count := clamp 1 2000 count, lot := storedText lot, factor := clamp 512 2047 factor, film := .loading }
      comp := { s.comp with exhausted := false, sheet := .unloaded } })

/-- LOAD_FILM (R148). -/
def execLoadFilm (p : Port) (tag count : Nat) (lot : Text) (factor : Nat) (s : State) : Result :=
  request p .loadFilm tag s fun s =>
    if !loadAccepted s then answer p .loadFilm tag .wrongState [] s
    else if lot.length ≠ 8 then answer p .loadFilm tag .badValue [] s
    else
      answer p .loadFilm tag .ok (u16 (clamp 1 2000 count) ++ storedText lot ++ u16 (clamp 512 2047 factor))
        (loadFilm count lot factor s)

/-- R150: what an accepted UNLOAD FILM does. -/
def unloadFilm (s : State) : State :=
  pump (enqueueOp .leaderOut
    { s with film := { s.film with count := 0, film := .unloading }, comp := { s.comp with sheet := .unloaded } })

/-- UNLOAD_FILM (R150). -/
def execUnloadFilm (p : Port) (tag : Nat) (s : State) : Result :=
  request p .unloadFilm tag s fun s =>
    match s.comp.sheet with
    | .idle => answer p .unloadFilm tag .ok [] (unloadFilm s)
    | .unloaded => answer p .unloadFilm tag .noFilm [] s
    | .opening | .open | .closing | .indexing | .finishing => answer p .unloadFilm tag .wrongState [] s

/-- LEADER_IN_ADVANCE_COMPLETE (R149): the film is LOADED, the sheet state is IDLE, and the opening conditions are
tested. -/
def execLeaderInAdvanceComplete (s : State) : Result :=
  if motionOp s = some .leaderIn then
    let s := completeFilmOp .leaderIn s
    .next (settle { s with film := { s.film with film := .loaded }, comp := { s.comp with sheet := .idle } })
  else .next s

/-- LEADER_OUT_ADVANCE_COMPLETE (R150): the film is EMPTY. -/
def execLeaderOutAdvanceComplete (s : State) : Result :=
  if motionOp s = some .leaderOut then
    let s := completeFilmOp .leaderOut s
    .next (settle { s with film := { s.film with film := .empty } })
  else .next s

/-! ## The stage (R154, R155) -/

/-- R154: the stage stands at a site. -/
def standAt (place : Place) (s : State) : State := { s with film := { s.film with stage := .atSite place } }

/-- STAGE_ARRIVAL (R154): the position is AT_SITE, and the arrival is reported to the Writer unless it has given
up the move. -/
def execStageArrival (s : State) : Result :=
  match motionOp s with
  | some (.stageMove place live) => .next (settle (reportArrival live (standAt place (endMotion s))))
  | some .leaderIn | some .leaderOut | some .opening | some .finishing | some .homing | none => .next s

/-- R155, R158: the stage is at HOME, the re-home flag is clear, and the gate is re-seated if it should hold the
sheet. -/
def homed (s : State) : State :=
  { s with film := { s.film with stage := .home, rehome := false, clamped := s.film.gateDue } }

/-- HOMING_COMPLETE (R155, R158). -/
def execHomingComplete (s : State) : Result :=
  if motionOp s = some .homing then .next (settle (homed (endMotion s))) else .next s

/-! ## Faults (R156, R157) -/

/-- R156, R157: the stage is LOST: a frame in progress is spoiled, and STAGE joins the halt list. -/
def loseStage (s : State) : State :=
  addHalt .stage (faultFrame .stage { s with film := { s.film with stage := .lost } })

/-- R156, R157: a film fault: a frame in progress is spoiled, and TRANSPORT joins the halt list. -/
def transportFault (s : State) : State := addHalt .transport (faultFrame .stage s)

/-- R153, R156: a film operation that fails is held, but for an opening advance whose sheet has been aborted. -/
def holdOp (op : Operation) (s : State) : State :=
  if op = .opening ∧ s.comp.sheet ≠ .opening then { s with film := { s.film with heldOp := none } }
  else { s with film := { s.film with heldOp := some op } }

/-- R156: an operation fails at its timer. -/
def failOp (op : Operation) (s : State) : State :=
  match op with
  | .leaderIn | .leaderOut | .opening | .finishing => transportFault (holdOp op (endMotion s))
  | .stageMove _ _ | .homing => loseStage (endMotion s)

/-- OPERATION_TIMEOUT (R147, R156): the timer of the motion in progress expires. -/
def execOperationTimeout (s : State) : Result :=
  match s.film.motion with
  | some m => .next (settle (failOp m.op (reach (m.since + m.op.limit) s)))
  | none => .next s

/-- R157: a stage move or a homing in motion ends. -/
def stopStage (s : State) : State :=
  match motionOp s with
  | some (.stageMove _ _) | some .homing => endMotion s
  | some .leaderIn | some .leaderOut | some .opening | some .finishing | none => s

/-- POSITION_LOSS (R157). The fault acts when the event is taken, during a film motion too, which goes on: row 4 of R159
gives the two orders of a loss and the completion of the cut the other way round (log entry 43). -/
def execPositionLoss (s : State) : Result := .next (settle (loseStage (stopStage s)))

/-- GATE_RELEASE (R157): while the gate should hold the sheet clamped. -/
def execGateRelease (s : State) : Result :=
  if s.film.gateDue then
    .next (settle (transportFault { s with film := { s.film with clamped := false } }))
  else .next s

end Sys2Proof.Machine
end

