-- ==== Sys2Proof/Machine/FrameWriter.lean ====
section
/-! DEFINITION. The events of the Frame Writer: the start of a frame, the retrace and the end of a line, the pause
limit (chapter 6). -/

namespace Sys2Proof.Machine

/-- FRAME_START (R117, R118, R119): an IDLE Writer's selection, taken by the Composer. -/
def execFrameStart (s : State) : Result :=
  match selectSite s, s.index.current with
  | some site, some r =>
    if s.writer.mode = .idle ∧ s.comp.halts = [] then .next (startSite r site s) else .next s
  | _, _ => .next s

/-- R106, R122: the time at which the slot of the line's last dot ends. -/
def dotsEnd (s : State) : Nat := s.writer.lineStart + s.writer.geometry.width * s.dose.frame.dotTime

/-- R122: the dots of the line are written: the lines written rise by 1, the laser is off, the retrace begins. -/
def endDots (s : State) : State :=
  let s := modReport (fun r => { r with lines := r.lines + 1 }) (reach (dotsEnd s) s)
  modWriter (fun w => { w with pulses := [], phase := .retrace, retraceStart := s.now }) s

/-- R137: with no measurement in flight, the Writer's retrace sample begins at the start of the retrace. -/
def beginSample (s : State) : State :=
  let s := addRequester .writer (modWriter (fun w => { w with sample := some .retrace }) s)
  if s.beam.inFlight.isNone then beginMeasurement s else s

/-- R122: the line is the last of its frame. -/
def onLastLine (s : State) : Bool := decide (s.writer.geometry.height ≤ s.writer.line + 1)

/-- RETRACE_START (R122, R123, R137): the slot of the line's last dot ends; in the retrace of every line but the
last the Writer takes its sample. -/
def execRetraceStart (s : State) : Result :=
  if s.writer.mode = .writing ∧ s.writer.phase = .dots then
    let s := endDots s
    .next (if onLastLine s then s else beginSample s)
  else .next s

/-- R122: the retrace takes 400 ticks. -/
def retraceTicks : Nat := 400

/-- R122: the Writer goes on to its next line. -/
def nextLine (s : State) : State :=
  tryLine (kickBeam (modWriter (fun w => { w with line := w.line + 1, phase := .due }) s))

/-- LINE_END (R122, R130): the retrace ends, once its sample has been answered: the next line, or the end of the
frame. -/
def execLineEnd (s : State) : Result :=
  if s.writer.mode = .writing ∧ s.writer.phase = .retrace ∧ s.writer.sample = none then
    let s := reach (s.writer.retraceStart + retraceTicks) s
    if onLastLine s then .next (settle (endFrame s))
    else if writerMapped s then .next (settle (nextLine s))
    else .fault .noSuchBlock
  else .next s

/-- PAUSE_TIMER_EXPIRY (R128, R131): the pause timer reaches the limit that it was started with. -/
def execPauseTimerExpiry (s : State) : Result :=
  match s.writer.pause with
  | some t =>
    if s.writer.mode = .paused then .next (settle (faultFrame .pause (reach (t.since + t.limit * second) s))) else .next s
  | none => .next s

end Sys2Proof.Machine
end

