-- ==== Sys2Proof/Machine/ImageStore.lean ====
section
/-! DEFINITION. The commands of the Image Store: defining, filling, querying and dropping pages, and quotas
(chapter 4). -/

namespace Sys2Proof.Machine

/-! ## Defining a page (R75, R76) -/

/-- R75, check 1: the geometry fields; the rotation when they are in range. -/
def checkedPage (width height depth dpi rotation : Nat) : Option Rotation :=
  if inRange 1 4096 width && inRange 1 6144 height && (depth == 1 || depth == 2 || depth == 4 || depth == 8)
      && inRange 100 600 dpi then rotationOfCode rotation
  else none

/-- R76: the page record as it is created, over the blocks of its row map. -/
def newPage (p : Port) (width height depth dpi : Nat) (rot : Rotation) (rowMap : List Nat) : Page :=
  { owner := p, width := width, height := height, depth := depth, dpi := dpi, rotation := rot
    rowBytes := rowBytesOf width depth, rowsPerBlock := rowsPerBlockOf width depth, rowMap := rowMap
    received := 0, state := .receiving, attached := none }

/-- R71, R76: the blocks of a row map are marked with a page and their positions in it, counted from `i`. -/
def markBlocks (h : Nat) : Nat → List Nat → List (Option BlockUse) → List (Option BlockUse)
  | _, [], m => m
  | i, b :: bs, m => markBlocks h (i + 1) bs (m.set b (some ⟨h, i⟩))

/-- R76: the page is created at a handle with the first blocks of the free list. -/
def createPage (p : Port) (h width height depth dpi : Nat) (rot : Rotation) (s : State) : State :=
  let b := blocksOf width height depth
  let rowMap := s.store.freeList.take b
  { s with store := { s.store with
      freeList := s.store.freeList.drop b
      blockMap := markBlocks h 0 rowMap s.store.blockMap
      held := s.store.held.set p (s.store.held.get p + b)
      pages := tablePut s.store.pages h (newPage p width height depth dpi rot rowMap) } }

/-- R76: the body of the reply to an accepted DEFINE PAGE, after the reservation. -/
def definedBody (p : Port) (h width height depth : Nat) (s : State) : List Byte :=
  u16 h ++ u16 (rowBytesOf width depth) ++ u16 (rowsPerBlockOf width depth) ++ u16 (blocksOf width height depth)
    ++ u16 (s.store.held.get p) ++ u16 s.store.freeList.length

/-- R75, R76: what DEFINE PAGE does. -/
def define (p : Port) (tag width height depth dpi rotation : Nat) (s : State) : State :=
  match checkedPage width height depth dpi rotation with
  | none => answer p .definePage tag .badValue [] s
  | some rot =>
    let b := blocksOf width height depth
    let held := s.store.held.get p
    let free := s.store.freeList.length
    if 256 < b then answer p .definePage tag .tooLarge (u16 b) s
    else if s.store.quota.get p < held + b then
      answer p .definePage tag .overQuota (u16 b ++ u16 held ++ u16 (s.store.quota.get p)) s
    else if free < b then answer p .definePage tag .storeFull (u16 b ++ u16 free) s
    else
      match tableFree s.store.pages 1024 with
      | none => answer p .definePage tag .tableFull [] s
      | some h =>
        let s := createPage p h width height depth dpi rot s
        answer p .definePage tag .ok (definedBody p h width height depth s) s

/-- DEFINE_PAGE (R75, R76). -/
def execDefinePage (p : Port) (tag width height depth dpi rotation : Nat) (s : State) : Result :=
  request p .definePage tag s (define p tag width height depth dpi rotation)

/-! ## Delivering rows (R80, R81) -/

/-- R80: what PUT ROWS does: a refusal, or the acceptance after which the store writes the rows and the port stays
BUSY. -/
def acceptRows (p : Port) (tag page first count : Nat) (data : List Byte) (s : State) : State :=
  match tableGet s.store.pages page with
  | none => answer p .putRows tag .badHandle [] s
  | some pg =>
    if pg.owner ≠ p then answer p .putRows tag .notOwner [] s
    else if pg.state = .complete then answer p .putRows tag .tooLate (u16 pg.received) s
    else if count < 1 ∨ 16384 < data.length ∨ data.length ≠ count * pg.rowBytes then
      answer p .putRows tag .badValue [] s
    else if first ≠ pg.received then answer p .putRows tag .outOfOrder (u16 pg.received) s
    else if pg.height < first + count then answer p .putRows tag .badValue (u16 pg.received) s
    else
      setBusy p (.putRows tag)
        { s with store := { s.store with writes := s.store.writes ++ [⟨p, tag, page, first, count, data⟩] } }

/-- PUT_ROWS (R79, R80, R81). -/
def execPutRows (p : Port) (tag page first count : Nat) (data : List Byte) (s : State) : Result :=
  request p .putRows tag s (acceptRows p tag page first count data)

/-- R81: the record of a page whose rows received have risen. -/
def Page.receive (n : Nat) (pg : Page) : Page :=
  { pg with received := pg.received + n, state := if pg.received + n = pg.height then .complete else pg.state }

/-- R81: steps 1 and 2: the rows of an accepted PUT ROWS are written and counted, and it leaves the writes. -/
def countRows (w : PendingWrite) (rest : List PendingWrite) (pg : Page) (s : State) : State :=
  { s with store := { s.store with
      memory := writeRows pg w.first w.count w.data s.store.memory
      pages := tableModify (Page.receive w.count) s.store.pages w.page
      writes := rest } }

/-- R68: the frame carries a page. -/
def FrameRec.shows (page : Nat) (f : FrameRec) : Bool :=
  match f.ref with
  | some x => x.page == page
  | none => false

/-- R49, R82: the Composer's answer to a rows report: the page's frame is tested for readiness; a completion of a
page with a retake waiting starts a run. -/
def reportRows (page : Nat) (complete : Bool) (s : State) : State :=
  let s := testReadyFrames (FrameRec.shows page) s
  if complete ∧ s.comp.retakes.any (·.page == page) then triggerRetakes s else s

/-- R81: the reply to an accepted PUT ROWS. -/
def replyRows (w : PendingWrite) (pg : Page) (s : State) : State :=
  setIdle w.port (answer w.port .putRows w.tag .ok (u16 pg.received ++ u8 (pageStateCode pg.state)) s)

/-- ROWS_WRITTEN (R81, R82, R83, R90): the oldest accepted PUT ROWS is written, counted, reported and answered. -/
def execRowsWritten (s : State) : Result :=
  match s.store.writes with
  | [] => .next s
  | w :: rest =>
    match tableGet s.store.pages w.page with
    | none => .next { s with store := { s.store with writes := rest } }
    | some pg =>
      if pageMapped pg then
        let pg' := Page.receive w.count pg
        let s := reportRows w.page (pg'.state == .complete) (countRows w rest pg s)
        .next (settle (replyRows w pg' (rowsArrived w.page pg'.received s)))
      else .fault .noSuchBlock

/-! ## Queries, drops and quotas (R78, R85, R87) -/

/-- R85: the body of QUERY PAGE. -/
def pageBody (h : Nat) (pg : Page) : List Byte :=
  u16 h ++ u8 (portCode pg.owner) ++ u16 pg.width ++ u16 pg.height ++ u8 pg.depth ++ u16 pg.dpi
    ++ u8 (rotationCode pg.rotation) ++ u16 pg.rowBytes ++ u16 pg.rowsPerBlock ++ u16 pg.rowMap.length
    ++ u16 pg.received ++ u8 (pageStateCode pg.state) ++ optField u16 pg.attached

/-- QUERY_PAGE (R85). -/
def execQueryPage (p : Port) (tag page : Nat) (s : State) : Result :=
  request p .queryPage tag s fun s =>
    match tableGet s.store.pages page with
    | none => answer p .queryPage tag .badHandle [] s
    | some pg =>
      if (s.ports.get p).cls = .feeder ∧ pg.owner ≠ p then answer p .queryPage tag .notOwner [] s
      else answer p .queryPage tag .ok (pageBody page pg) s

/-- R87: what DROP PAGE does. -/
def drop (p : Port) (tag page : Nat) (s : State) : State :=
  match tableGet s.store.pages page with
  | none => answer p .dropPage tag .badHandle [] s
  | some pg =>
    if pg.owner ≠ p then answer p .dropPage tag .notOwner [] s
    else
      match pg.attached with
      | some d => answer p .dropPage tag .inUse (u16 d) s
      | none =>
        let s := dropPage page s
        answer p .dropPage tag .ok (u16 (s.store.held.get p) ++ u16 s.store.freeList.length) s

/-- DROP_PAGE (R87). -/
def execDropPage (p : Port) (tag page : Nat) (s : State) : Result := request p .dropPage tag s (drop p tag page)

/-- SET_QUOTA (R78). -/
def execSetQuota (p : Port) (tag port value : Nat) (s : State) : Result :=
  request p .setQuota tag s fun s =>
    match portOfCode port with
    | none => answer p .setQuota tag .badValue [] s
    | some q =>
      let v := min 2048 value
      answer p .setQuota tag .ok (u8 port ++ u16 v ++ u16 (s.store.held.get q))
        { s with store := { s.store with quota := s.store.quota.set q v } }

end Sys2Proof.Machine
end

