-- ==== Sys2Proof/Machine/IndexTitle.lean ====
section
/-! DEFINITION. The requests of the Index Builder: reading the log, and the title template (R165, R166, R173). -/

namespace Sys2Proof.Machine

/-- R165: the record that a serial names; 0 names the current record. -/
def recordOf (s : State) (serial : Nat) : Option SheetRec :=
  if serial = 0 then s.index.current
  else
    match s.index.current with
    | some r => if r.serial = serial then some r else s.index.ring.find? (·.serial == serial)
    | none => s.index.ring.find? (·.serial == serial)

/-- R165: the serials that the log still holds: the oldest and the newest of the ring, and the current one. -/
def logSerials (s : State) : List Byte :=
  optField u32 (s.index.ring.head?.map (·.serial)) ++ optField u32 (s.index.ring.getLast?.map (·.serial))
    ++ optField u32 (s.index.current.map (·.serial))

/-- R163, R165: an entry with its position, as READ INDEX returns it. -/
def entryField (frames : List FrameRec) (x : Nat × Entry) : List Byte :=
  let e := x.2
  u16 x.1 ++ u16 e.doc ++ u8 (portCode e.owner) ++ textField e.key ++ u8 (entryKindCode e.kind) ++ u8 e.num
    ++ u8 e.firstPage ++ u8 e.pageCount ++ listField runField e.runs
    ++ optField (fun y : Nat × Nat => u32 y.1 ++ u8 y.2) e.spoiled ++ u8 (entryStatusCode (e.status frames))

/-- R165: the examination of entries from a position on: at most `n` are taken; the entries taken with their
positions, and the position after the last entry examined, or 0 when the list has ended. -/
def examine (take : Entry → Bool) : Nat → Nat → List Entry → List (Nat × Entry) × Nat
  | _, _, [] => ([], 0)
  | 0, pos, _ :: _ => ([], pos)
  | n + 1, pos, e :: es =>
    if take e then
      let r := examine take n (pos + 1) es
      ((pos, e) :: r.1, r.2)
    else examine take (n + 1) (pos + 1) es

/-- R165: the entries that a port may read. -/
def mayRead (s : State) (p : Port) (owner : Port) : Bool := (s.ports.get p).cls == .bureau || owner == p

/-- R165: the body of READ INDEX. -/
def indexBody (s : State) (p : Port) (r : SheetRec) (start : Nat) : List Byte :=
  let x := examine (fun e => mayRead s p e.owner) 16 start (r.entries.drop (start - 1))
  u32 r.serial ++ u8 (sheetStatusCode r.status) ++ optField (fun c => u8 (closeReasonCode c)) r.reason
    ++ u8 r.layoutNo ++ r.lot ++ u8 r.bank ++ u8 (titleStatusCode r.title) ++ u16 r.entries.length ++ u32 r.revision
    ++ listField (entryField r.frames) x.1 ++ u16 x.2

/-- READ_INDEX (R165). -/
def execReadIndex (p : Port) (tag serial start : Nat) (s : State) : Result :=
  request p .readIndex tag s fun s =>
    if start < 1 then answer p .readIndex tag .badValue [] s
    else
      match recordOf s serial with
      | none => answer p .readIndex tag .badHandle (logSerials s) s
      | some r => answer p .readIndex tag .ok (indexBody s p r start) s

/-- R133, R179: a frame report. -/
def reportField (r : Report) : List Byte :=
  u16 r.width ++ u16 r.height ++ u8 r.scale ++ u32 r.pitch ++ u32 r.ox ++ u32 r.oy ++ u16 r.pStart ++ u16 r.pMin
    ++ u16 r.pMax ++ u16 r.lines ++ u16 r.saturated ++ flag r.isSaturated ++ flag r.isDrift ++ flag r.isStreamed
    ++ optField (fun c => u8 (causeCode c)) r.cause

/-- R162, R166: a page reference. -/
def refField (x : PageRef) : List Byte := u16 x.page ++ u16 x.doc ++ u8 (portCode x.owner) ++ u8 x.index

/-- R166: the position of the entry whose runs name a frame. -/
def entryPosition (r : SheetRec) (n : Nat) : Option Nat := (r.entries.findIdx? fun e => e.frames.contains n).map (· + 1)

/-- R166: the body of READ FRAME for a frame. -/
def frameBody (r : SheetRec) (n : Nat) (f : FrameRec) : List Byte :=
  u32 r.serial ++ u8 n ++ frameAddress r.layout n ++ u8 (frameKindCode f.kind) ++ u8 (frameStateCode f.state)
    ++ optField refField f.ref ++ optField u16 (entryPosition r n) ++ optField reportField f.report

/-- R179: frame number 255 selects the title. -/
def titleSelector : Nat := 255

/-- R166: the body of READ FRAME for the title, which has no page reference and stands in no entry. -/
def titleBody (r : SheetRec) : List Byte :=
  u32 r.serial ++ u8 titleSelector ++ u8 (titleStatusCode r.title) ++ u8 0 ++ u8 0 ++ optField reportField r.titleReport

/-- READ_FRAME (R166). -/
def execReadFrame (p : Port) (tag serial frame : Nat) (s : State) : Result :=
  request p .readFrame tag s fun s =>
    match recordOf s serial with
    | none => answer p .readFrame tag .badHandle [] s
    | some r =>
      if frame = titleSelector then answer p .readFrame tag .ok (titleBody r) s
      else
        match r.frames[frame]? with
        | none => answer p .readFrame tag .badValue [] s
        | some f =>
          if f.ref.all fun x => mayRead s p x.owner then answer p .readFrame tag .ok (frameBody r frame f) s
          else answer p .readFrame tag .notOwner [] s

/-- SET_TITLE (R173). -/
def execSetTitle (p : Port) (tag : Nat) (text : Text) (s : State) : Result :=
  request p .setTitle tag s fun s =>
    if 32 < text.length then answer p .setTitle tag .badValue [] s
    else
      answer p .setTitle tag .ok (textField (storedText text))
        { s with index := { s.index with template := storedText text } }

end Sys2Proof.Machine
end

