-- ==== Sys2Proof/Machine/PortOps.lean ====
section
/-! DEFINITION. What a port reset (R46, R89, R186) and a device reset (R1, 1.14) do. -/

namespace Sys2Proof.Machine

/-- R186: the port's own part of a port reset; a request in flight is abandoned with no reply. -/
def resetPortRec (r : PortRec) : PortRec :=
  { r with busy := none, notices := [], overrun := false, mask := BitVec.allOnes 10, quiet := none }

/-- R46: how many items of the port's queue stay: the passed ones, and a PLACING document at the cursor. -/
def keptItems (s : State) (p : Port) : Nat :=
  let q := s.docs.queues.get p
  match cursorDoc s p with
  | some h => (match docOf s h with | some d => if d.state = .placing then q.cursor + 1 else q.cursor | none => q.cursor)
  | none => q.cursor

/-- R46, R62: the unplaced items are removed; the held flag is cleared if the cursor item is among them. The documents
are released in queue order (log entry 18). -/
def dropUnplaced (p : Port) (s : State) : State :=
  let kept := keptItems s p
  let q := s.docs.queues.get p
  let removed := (q.items.drop kept).filterMap fun i => match i with | .doc h => some h | .mark => none
  let s := if kept ≤ q.cursor ∧ q.hasUnplaced then setHeld p false s else s
  let s := modQueue p (fun q => { q with items := q.items.take kept }) s
  removed.foldl (fun s h => releaseDoc h s) s

/-- R46, R89: every detached page of the port is dropped (in handle order, log entry 18). -/
def dropDetached (p : Port) (s : State) : State :=
  ((s.store.pages.filter fun x => x.2.owner == p && x.2.attached == none).map (·.1)).foldl (fun s h => dropPage h s) s

/-- R46, R84, R138, R186: a port reset, up to the tests of the Composer. -/
def portResetCore (p : Port) (s : State) : State :=
  let s := withdraw (.port p) (modPort p resetPortRec s)
  let s := landHead s (dropDetached p (dropUnplaced p (abandonWritesOf p s)))
  { s with comp := { s.comp with pendingMarks := s.comp.pendingMarks.set p false } }

/-- R12, R46, R62, R186: a port reset: the close conditions are tested, and a hold that is cleared starts a run. -/
def resetPort (p : Port) (s : State) : State :=
  let s' := portResetCore p s
  let s'' := if s.comp.heldFlags = s'.comp.heldFlags then s' else triggerPorts s'
  settle (closeTest s'')

/-- R10: what the serial cell holds after a reset: with a write in progress, its old value or the new serial. -/
def cellAfterReset (s : State) : Nat :=
  match s.comp.write, s.index.current with
  | .writing, some r => if Config.brokenWriteKeepsNew s.choices then r.serial else s.comp.cell
  | _, _ => s.comp.cell

/-- R1, 1.14: power-on and device reset. The cell, the bytes of the block memory, the clock, the counter of
choices and the waiting commands outlive it. -/
def resetPart (straps : PerPort PortClass) (s : State) : State :=
  let s := landHead s { s with store := { s.store with writes := [] } }
  State.afterReset s.now (s.choices + 1) s.pending s.store.memory (cellAfterReset s) straps

end Sys2Proof.Machine
end

