-- ==== Sys2Proof/Machine/LinePorts.lean ====
section
/-! DEFINITION. The commands of the Line Ports and the resets (chapter 10, R1). -/

namespace Sys2Proof.Machine

/-- POWER_ON (R1, 1.14). -/
def execPowerOn (straps : PerPort PortClass) (s : State) : Result := .next (resetPart straps s)

/-- DEVICE_RESET (R1, 1.14): the same effect as power-on. -/
def execDeviceReset (straps : PerPort PortClass) (s : State) : Result := .next (resetPart straps s)

/-- LINK_UP (R174): a DOWN link becomes UP with its handler IDLE. -/
def execLinkUp (p : Port) (s : State) : Result :=
  if (s.ports.get p).up then .next s else .next (modPort p (fun r => { r with up := true, busy := none }) s)

/-- LINK_DOWN (R174, R186): an UP link becomes DOWN, its replies are discarded, and the port is reset. -/
def execLinkDown (p : Port) (s : State) : Result :=
  if (s.ports.get p).up then .next (resetPort p (modPort p (fun r => { r with up := false, sent := [] }) s))
  else .next s

/-- BAD_FRAME (R176): answered BAD_FRAME with kind 0x80 and tag 0, whatever the handler's state. -/
def execBadFrame (p : Port) (s : State) : Result :=
  if (s.ports.get p).up then .next (sendReply p ⟨0x80, 0, .badFrame, []⟩ s) else .next s

/-- UNKNOWN_REQUEST (R176, R177): a kind that names no request is answered BUSY by a BUSY handler, otherwise
UNKNOWN_REQUEST. A kind that names one stands for a frame whose body has not the form of its kind: it takes the tests of
R176, and the block that owns it refuses it with BAD_VALUE (log entry 22). -/
def execUnknownRequest (p : Port) (tag kind : Nat) (s : State) : Result :=
  match kindOfCode kind with
  | some k => request p k tag s (answer p k tag .badValue [])
  | none =>
    let r := s.ports.get p
    if r.up = false then .next s
    else if r.busy.isSome then .next (sendReply p ⟨(kind + 0x80) % 256, tag, .busy, []⟩ s)
    else .next (sendReply p ⟨(kind + 0x80) % 256, tag, .unknownRequest, []⟩ s)

/-- R182: what FETCH NOTICES does to a port. -/
def PortRec.fetched (r : PortRec) : PortRec := { r with notices := r.notices.drop 8, overrun := false }

/-- R182: the body of its reply. -/
def PortRec.fetchBody (r : PortRec) : List Byte :=
  flag r.overrun ++ u8 (r.notices.take 8).length ++ u8 (r.notices.drop 8).length
    ++ (r.notices.take 8).flatMap Notice.bytes

/-- FETCH_NOTICES (R182). -/
def execFetchNotices (p : Port) (tag : Nat) (s : State) : Result :=
  request p .fetchNotices tag s fun s =>
    answer p .fetchNotices tag .ok (s.ports.get p).fetchBody (modPort p PortRec.fetched s)

/-- SET_NOTICE_MASK (R183): bits above bit 9 are ignored. -/
def execSetNoticeMask (p : Port) (tag mask : Nat) (s : State) : Result :=
  request p .setNoticeMask tag s fun s =>
    answer p .setNoticeMask tag .ok (u16 (mask % 1024)) (modPort p (fun r => { r with mask := BitVec.ofNat 10 mask }) s)

/-- ATTENTION_DONE (R184): the quiet timer starts, or starts again. -/
def execAttentionDone (p : Port) (tag : Nat) (s : State) : Result :=
  request p .attentionDone tag s fun s =>
    answer p .attentionDone tag .ok [] (modPort p (fun r => { r with quiet := some s.now }) s)

/-- R184: the length of the quiet timer, 20 µs in ticks. -/
def quietTicks : Nat := 2000

/-- QUIET_TIMER_EXPIRY (R184): the quiet timer stops. -/
def execQuietTimerExpiry (p : Port) (s : State) : Result :=
  match (s.ports.get p).quiet with
  | some t => .next (modPort p (fun r => { r with quiet := none }) { s with now := max s.now (t + quietTicks) })
  | none => .next s

/-- R48, R185: the free data frames and the index entries left, as READ STATUS shows them: 0 in UNLOADED and
IDLE. -/
def statusCounts (s : State) : Nat × Nat :=
  match s.comp.sheet, s.index.current with
  | .unloaded, _ | .idle, _ => (0, 0)
  | _, some r => (r.freeFrames.length, r.layout.capacity - r.entries.length)
  | _, none => (0, 0)

/-- R185: the body of READ STATUS. The halt condition NONE is an absent value (log entry 21). -/
def statusBody (p : Port) (s : State) : List Byte :=
  let r := s.ports.get p
  u8 (sheetStateCode s.comp.sheet) ++ optField (fun c => u8 (haltCode c)) s.comp.halts.head?
    ++ u32 ((s.index.current.map (·.serial)).getD 0) ++ u32 s.comp.nextSerial
    ++ u8 (statusCounts s).1 ++ u16 (statusCounts s).2 ++ u16 s.film.count
    ++ u16 s.store.freeList.length ++ u16 (s.store.held.get p) ++ u16 (s.store.quota.get p)
    ++ u8 (s.docs.queues.get p).items.length ++ u8 (beamStateCode s.beam.state) ++ u8 (classCode r.cls)
    ++ u8 r.notices.length ++ flag r.overrun

/-- READ_STATUS (R185). -/
def execReadStatus (p : Port) (tag : Nat) (s : State) : Result :=
  request p .readStatus tag s fun s => answer p .readStatus tag .ok (statusBody p s) s

/-- PORT_RESET (R187): the reply is formed after the reset. -/
def execPortReset (p : Port) (tag : Nat) (s : State) : Result :=
  request p .portReset tag s fun s =>
    let s := resetPort p s
    answer p .portReset tag .ok (u16 (s.store.held.get p) ++ u16 s.store.freeList.length) s

end Sys2Proof.Machine
end

