-- ==== Sys2Proof/Machine/Documents.lean ====
section
/-! DEFINITION. The commands of the Document Queue Unit: submitting, marking, cancelling and querying (chapter 2). -/

namespace Sys2Proof.Machine

/-! ## Submitting (R37 to R39) -/

/-- R37, check 1: the fields of a submission; its class when they are in range. -/
def checkedSubmission (key : Text) (cls count : Nat) (pages : List Nat) : Option DocClass :=
  if inRange 1 64 count && decide (count = pages.length) && inRange 1 24 key.length then classOfCode cls else none

/-- R37, check 2: every handle names a page record. -/
def pagesExist (s : State) (pages : List Nat) : Bool := pages.all fun h => (tableGet s.store.pages h).isSome

/-- R37, check 3: every page belongs to the port. -/
def pagesOwned (s : State) (p : Port) (pages : List Nat) : Bool :=
  pages.all fun h => match tableGet s.store.pages h with | some pg => pg.owner == p | none => false

/-- R37, check 4: no page is attached, and no handle appears twice. -/
def pagesFree (s : State) (pages : List Nat) : Bool :=
  decide pages.Nodup
    && pages.all fun h => match tableGet s.store.pages h with | some pg => pg.attached == none | none => false

/-- R38: the record of a document as it is created. -/
def newDoc (p : Port) (key : Text) (cls : DocClass) (stream : Bool) (pages : List Nat) : Doc :=
  { owner := p, key := storedText key, cls := cls, stream := stream, pages := pages.map fun h => (h, ⟨.none, 0⟩)
    state := .queued, placed := 0, sheets := [] }

/-- R38: the document is created at a handle, its pages are attached, its item joins the queue. -/
def createDoc (p : Port) (h : Nat) (d : Doc) (s : State) : State :=
  let s := { s with docs := { s.docs with table := tablePut s.docs.table h d } }
  let s := (d.pages.map (·.1)).foldl (fun s pg => setAttached (some h) pg s) s
  modQueue p (fun q => { q with items := q.items ++ [.doc h] }) s

/-- R34, R38: the cursor of a port stood at the end before an item joined its queue: the item has arrived at it. -/
def arrivesAtCursor (s : State) (p : Port) : Bool := !(s.docs.queues.get p).hasUnplaced

/-- R34, R38, R49: the Composer hears of an accepted submission. -/
def submitted (s : State) : State := settle (closeTest (triggerPorts s))

/-- R37, R38: what SUBMIT DOCUMENT does. -/
def submit (p : Port) (tag : Nat) (key : Text) (cls : Nat) (stream : Bool) (count : Nat) (pages : List Nat)
    (s : State) : State :=
  match checkedSubmission key cls count pages with
  | none => answer p .submitDocument tag .badValue [] s
  | some c =>
    if !pagesExist s pages then answer p .submitDocument tag .badHandle [] s
    else if !pagesOwned s p pages then answer p .submitDocument tag .notOwner [] s
    else if !pagesFree s pages then answer p .submitDocument tag .inUse [] s
    else if 128 ≤ (s.docs.queues.get p).items.length then answer p .submitDocument tag .queueFull [] s
    else
      match tableFree s.docs.table 512 with
      | none => answer p .submitDocument tag .tableFull [] s
      | some h =>
        let s := createDoc p h (newDoc p key c stream pages) s
        submitted (answer p .submitDocument tag .ok (u16 h ++ u8 (s.docs.queues.get p).items.length) s)

/-- SUBMIT_DOCUMENT (R37, R38, R39). -/
def execSubmitDocument (p : Port) (tag : Nat) (key : Text) (cls : Nat) (stream : Bool) (count : Nat)
    (pages : List Nat) (s : State) : Result :=
  request p .submitDocument tag s (submit p tag key cls stream count pages)

/-! ## Marks (R40) -/

/-- R34, R35, R40: a MARK joins the queue; at an empty cursor it is taken at once, which the Composer hears of. -/
def joinMark (p : Port) (s : State) : State :=
  let arrives := arrivesAtCursor s p
  let s := modQueue p (fun q => { q with items := q.items ++ [.mark] }) s
  if arrives then
    let s' := advanceCursor p s
    settle (closeIfChanged s (triggerPorts s'))
  else s

/-- BATCH_MARK (R40). -/
def execBatchMark (p : Port) (tag : Nat) (s : State) : Result :=
  request p .batchMark tag s fun s =>
    let n := (s.docs.queues.get p).items.length
    if 128 ≤ n then answer p .batchMark tag .queueFull [] s
    else joinMark p (answer p .batchMark tag .ok (u8 (n + 1)) s)

/-! ## Cancelling (R41 to R43) -/

/-- R41, situation 4: the document has an entry on a sheet that is FINISHED (a sheet that left the stage ABORTED
has left the sheet list, R36). -/
def onFinishedSheet (s : State) (d : Doc) : Bool := d.sheets.any fun r => !sheetUnfinished s r.serial

/-- R41: a frame carries a page of the document. -/
def FrameRec.carries (h : Nat) (f : FrameRec) : Bool :=
  match f.ref with
  | some x => x.doc == h
  | none => false

/-- R8, R43, R64: the frame is PLACED or READY. -/
def FrameRec.waiting (f : FrameRec) : Bool := f.state == .placed || f.state == .ready

/-- R41, situation 5: the frame is EXPOSING, PAUSED, EXPOSED or SPOILED. -/
def FrameRec.begun (f : FrameRec) : Bool :=
  f.state == .exposing || f.state == .paused || f.state == .exposed || f.state == .spoiled

/-- R41, situation 5: a frame of the document on the sheet in the stage has been begun, and the sheet is not
ABORTED. -/
def frameBegun (s : State) (h : Nat) : Bool :=
  match s.index.current with
  | some r => r.status != .aborted && r.frames.any fun f => f.carries h && f.begun
  | none => false

/-- R8, R43, R64: a PLACED or READY frame of the document becomes FREE. -/
def FrameRec.freed (h : Nat) (f : FrameRec) : FrameRec :=
  if f.carries h && f.waiting then { f with state := .free, kind := .data, ref := none } else f

/-- R43: the number of frames of the document that would be freed. -/
def freedCount (s : State) (h : Nat) : Nat := (currentFrames s).countP fun f => f.carries h && f.waiting

/-- R43, R163: the frames of the document are freed and its entries leave the sheet record. -/
def SheetRec.cancel (h : Nat) (r : SheetRec) : SheetRec :=
  { r with
    frames := r.frames.map (FrameRec.freed h)
    entries := r.entries.filter (·.doc != h)
    revision := r.revision + r.entries.countP (·.doc == h) }

/-- R43: what a cancel of a placed document does to the sheet in the stage and to the sheet list. -/
def unplaceDoc (h : Nat) (s : State) : State :=
  match s.index.current with
  | none => s
  | some r =>
    modDoc h (fun d => { d with sheets := d.sheets.filter (·.serial != r.serial) }) (modCurrent (SheetRec.cancel h) s)

/-- R42: the document is CANCELLED: its pages are detached, and the steps of a final state follow. -/
def cancelDoc (h : Nat) (d : Doc) (s : State) : State := finalizeDoc h .cancelled none (detachPages h d s)

/-- R34, R42, R43, R49, R62: the Composer hears of an accepted cancel. -/
def cancelled (s : State) : State := settle (closeTest (triggerPorts s))

/-- R42, R43: the effect of an accepted cancel. -/
def acceptCancel (p : Port) (tag h : Nat) (d : Doc) (s : State) : State :=
  if d.state = .queued then cancelled (answer p .cancelDocument tag .ok [] (cancelDoc h d s))
  else
    let n := freedCount s h
    cancelled (answer p .cancelDocument tag .ok (u8 n) (clearHeld (cancelDoc h d (unplaceDoc h s))))

/-- R41: what CANCEL DOCUMENT does. -/
def cancel (p : Port) (tag h : Nat) (s : State) : State :=
  match docOf s h with
  | none => answer p .cancelDocument tag .badHandle [] s
  | some d =>
    if (s.ports.get p).cls = .feeder ∧ d.owner ≠ p then answer p .cancelDocument tag .notOwner [] s
    else if d.state.isFinal then answer p .cancelDocument tag .wrongState [] s
    else if onFinishedSheet s d || frameBegun s h then answer p .cancelDocument tag .tooLate [] s
    else acceptCancel p tag h d s

/-- CANCEL_DOCUMENT (R41, R42, R43). -/
def execCancelDocument (p : Port) (tag doc : Nat) (s : State) : Result :=
  request p .cancelDocument tag s (cancel p tag doc)

/-! ## Querying (R45) -/

/-- R45: the queue position: the items before the document's item, and whether it is the cursor item. -/
def queuePosition (q : Queue) (h : Nat) : Option (Nat × Bool) :=
  (q.items.findIdx? (· == .doc h)).map fun i => (i, i == q.cursor)

/-- R45: the body of QUERY DOCUMENT. -/
def documentBody (s : State) (h : Nat) (d : Doc) : List Byte :=
  u16 h ++ u8 (portCode d.owner) ++ textField d.key ++ u8 (docClassCode d.cls) ++ flag d.stream
    ++ u8 (docStateCode d.state) ++ u8 d.placed
    ++ listField (fun x : Nat × PageMark => u16 x.1 ++ u8 (pageOutcomeCode x.2.outcome) ++ u8 x.2.spoils) d.pages
    ++ listField (fun r : SheetRef => u32 r.serial) d.sheets
    ++ optField (fun x : Nat × Bool => u8 x.1 ++ flag x.2) (queuePosition (s.docs.queues.get d.owner) h)

/-- QUERY_DOCUMENT (R45). -/
def execQueryDocument (p : Port) (tag doc : Nat) (s : State) : Result :=
  request p .queryDocument tag s fun s =>
    match docOf s doc with
    | none => answer p .queryDocument tag .badHandle [] s
    | some d =>
      if (s.ports.get p).cls = .feeder ∧ d.owner ≠ p then answer p .queryDocument tag .notOwner [] s
      else answer p .queryDocument tag .ok (documentBody s doc d) s

end Sys2Proof.Machine
end

