-- ==== Sys2Proof/Machine/Placement.lean ====
section
/-! DEFINITION. The steps of the placement arbiter as commands: a grant, a rejection, a retake found UNFIT, a failed
try (chapter 3). Each acts only when the next step of the run in progress is of its kind. The run then rests, so that
another event may be taken before its next step or its end (R50, log entry 14). -/

namespace Sys2Proof.Machine

/-- Change the run in progress, if there is one. -/
def modRun (f : ArbRun → ArbRun) (s : State) : State :=
  { s with comp := { s.comp with run := s.comp.run.map f } }

/-! ## Grants (R53, R58, R60) -/

/-- R53, R61: what a grant does to the port: a document that is PLACED is passed; one that stays PLACING holds its
port. -/
def passOrHold (p : Port) (h : Nat) (s : State) : State :=
  match docOf s h with
  | some d => if d.state = .placed then advanceCursor p s else setHeld p true s
  | none => s

/-- R60: after a grant the pointer and the phase move to the next port, and the count starts again. -/
def turnDone (p : Port) (s : State) : State :=
  modRun (fun r => { r with port := p.next, count := 0 }) { s with comp := { s.comp with pointer := p.next } }

/-- R53, R60, R61: a grant to the document at a port's cursor. -/
def grantToDoc (p : Port) (h : Nat) (frames : List Nat) (s : State) : State :=
  match docOf s h, s.index.current with
  | some d, some r => closeIfChanged s (turnDone p (passOrHold p h (grantDocFrames h d r frames s)))
  | _, _ => s

/-- R53, R58: a grant to a retake; the count of considerations starts again. -/
def grantToRetake (t : Retake) (frame : Nat) (s : State) : State :=
  match docOf s t.doc, s.index.current with
  | some d, some r => modRun (fun r => { r with count := 0 }) (grantRetakeFrame t d r frame s)
  | _, _ => s

/-- GRANT (R53): the next step of the run, when it is a grant. -/
def execGrant (s : State) : Result :=
  match nextStep s with
  | some (.grantDoc p h frames) => .next (grantToDoc p h frames (reachStep s))
  | some (.grantRetake t frame) => .next (grantToRetake t frame (reachStep s))
  | some (.unfitRetake _) | some (.rejectDoc _ _ _ _) | some (.failTry _) | none => .next s

/-! ## Rejections (R64) -/

/-- R64: a frame of the document that the rejection frees. -/
def SheetRec.frees (r : SheetRec) (h n : Nat) : Bool :=
  match r.frames[n]? with
  | some f => f.carries h && f.waiting
  | none => false

/-- R64, R163, R164: an entry of the rejected document after its frames have been freed: none when all were; otherwise
it is cut to the frames that remain and is VOID. -/
def cutEntry (r : SheetRec) (h : Nat) (e : Entry) : Option Entry :=
  if e.doc ≠ h then some e
  else
    let left := e.frames.filter fun n => !r.frees h n
    if left = [] then none else some { e with runs := runsOf left, mark := some .void }

/-- R64: the frames and the entries of a rejected document on the sheet in the stage. -/
def SheetRec.reject (h : Nat) (r : SheetRec) : SheetRec :=
  let entries := r.entries.filterMap (cutEntry r h)
  { r with
    frames := r.frames.map (FrameRec.freed h), entries := entries
    revision := r.revision + (r.entries.length - entries.length) }

/-- R64: the serial leaves the document's sheet list when no entry of it remains on the sheet. -/
def dropSheetRef (h : Nat) (s : State) : State :=
  match s.index.current with
  | none => s
  | some r =>
    if r.entries.any (·.doc == h) then s
    else modDoc h (fun d => { d with sheets := d.sheets.filter (·.serial != r.serial) }) s

/-- R62, R64: with a frame freed, every held flag is cleared and the count of considerations starts again. -/
def holdsAfter (freed : Nat) (s : State) : State :=
  if freed = 0 then s else clearHeld (modRun (fun r => { r with count := 0 }) s)

/-- R64, R84: the effects of a rejection, in their order. -/
def rejectEffects (p : Port) (h : Nat) (reason : Reason) (page : Nat) (s : State) : State :=
  let freed := freedCount s h
  let s := dropSheetRef h (modCurrent (SheetRec.reject h) s)
  let s := notify p (.rejected h reason page) s
  landHead s (holdsAfter freed (finalizeDoc h .rejected (some reason) s))

/-- REJECTION (R64): the next step of the run, when it is a rejection. The port's new cursor item is considered at
once (R60). -/
def execRejection (s : State) : Result :=
  match nextStep s with
  | some (.rejectDoc p h reason page) =>
    .next (closeIfChanged s (rejectEffects p h reason page (reachStep s)))
  | some (.grantDoc _ _ _) | some (.grantRetake _ _) | some (.unfitRetake _) | some (.failTry _) | none => .next s

/-! ## A retake found UNFIT (R58), a failed try (R61) -/

/-- R58: the retake leaves the list and its page is LOST. -/
def loseRetake (t : Retake) (s : State) : State :=
  modDoc t.doc (Doc.modPage t.index fun m => { m with outcome := .lost })
    { s with comp := { s.comp with retakes := s.comp.retakes.erase t } }

/-- RETAKE_UNFIT (R58): the next step of the run, when it finds a retake UNFIT. -/
def execRetakeUnfit (s : State) : Result :=
  match nextStep s with
  | some (.unfitRetake t) => .next (loseRetake t (reachStep s))
  | some (.grantDoc _ _ _) | some (.grantRetake _ _) | some (.rejectDoc _ _ _ _) | some (.failTry _) | none => .next s

/-- R60, R61: the port is held, and the phase goes on to the next port. -/
def failTry (p : Port) (s : State) : State :=
  modRun (fun r => { r with port := p.next, count := r.count + 1 }) (setHeld p true s)

/-- TRY_FAILURE (R61): the next step of the run, when it is a failed try. -/
def execTryFailure (s : State) : Result :=
  match nextStep s with
  | some (.failTry p) => .next (closeIfChanged s (failTry p (reachStep s)))
  | some (.grantDoc _ _ _) | some (.grantRetake _ _) | some (.unfitRetake _) | some (.rejectDoc _ _ _ _) | none => .next s

end Sys2Proof.Machine
end

