-- ==== Sys2Proof/Machine/Dispatch.lean ====
section
/-! DEFINITION. The effect of a command on everything but the queue of waiting commands: one arm per row of
spec/opcode_table.json. -/

namespace Sys2Proof.Machine

def exec (i : Instr) (s : State) : Host.Outcome State Fault Refusal :=
  match i with
  | .powerOn straps => Sys2Proof.Machine.execPowerOn straps s
  | .deviceReset straps => Sys2Proof.Machine.execDeviceReset straps s
  | .linkUp p => Sys2Proof.Machine.execLinkUp p s
  | .linkDown p => Sys2Proof.Machine.execLinkDown p s
  | .badFrame p => Sys2Proof.Machine.execBadFrame p s
  | .unknownRequest p tag kind => Sys2Proof.Machine.execUnknownRequest p tag kind s
  | .selectLayout p tag entry => Sys2Proof.Machine.execSelectLayout p tag entry s
  | .setLayout p tag entry rows cols index reduction width height imprint => Sys2Proof.Machine.execSetLayout p tag entry rows cols index reduction width height imprint s
  | .closeSheet p tag => Sys2Proof.Machine.execCloseSheet p tag s
  | .halt p tag => Sys2Proof.Machine.execHalt p tag s
  | .resume p tag => Sys2Proof.Machine.execResume p tag s
  | .abortSheet p tag => Sys2Proof.Machine.execAbortSheet p tag s
  | .setLimits p tag pause completion age starve => Sys2Proof.Machine.execSetLimits p tag pause completion age starve s
  | .setCloseGroup p tag ports => Sys2Proof.Machine.execSetCloseGroup p tag ports s
  | .setSerial p tag value => Sys2Proof.Machine.execSetSerial p tag value s
  | .submitDocument p tag key cls stream count pages => Sys2Proof.Machine.execSubmitDocument p tag key cls stream count pages s
  | .batchMark p tag => Sys2Proof.Machine.execBatchMark p tag s
  | .cancelDocument p tag doc => Sys2Proof.Machine.execCancelDocument p tag doc s
  | .queryDocument p tag doc => Sys2Proof.Machine.execQueryDocument p tag doc s
  | .definePage p tag width height depth dpi rotation => Sys2Proof.Machine.execDefinePage p tag width height depth dpi rotation s
  | .putRows p tag page first count data => Sys2Proof.Machine.execPutRows p tag page first count data s
  | .queryPage p tag page => Sys2Proof.Machine.execQueryPage p tag page s
  | .dropPage p tag page => Sys2Proof.Machine.execDropPage p tag page s
  | .setQuota p tag port value => Sys2Proof.Machine.execSetQuota p tag port value s
  | .setToneMap p tag port map => Sys2Proof.Machine.execSetToneMap p tag port map s
  | .setOverlayMap p tag glyph cell => Sys2Proof.Machine.execSetOverlayMap p tag glyph cell s
  | .writeCurve p tag bank start count entries => Sys2Proof.Machine.execWriteCurve p tag bank start count entries s
  | .selectCurveBank p tag bank => Sys2Proof.Machine.execSelectCurveBank p tag bank s
  | .setFilmResponse p tag points => Sys2Proof.Machine.execSetFilmResponse p tag points s
  | .setWriter p tag gain dotTime => Sys2Proof.Machine.execSetWriter p tag gain dotTime s
  | .measureBeam p tag => Sys2Proof.Machine.execMeasureBeam p tag s
  | .setBeamWindow p tag floorIndex driftLimit => Sys2Proof.Machine.execSetBeamWindow p tag floorIndex driftLimit s
  | .loadFilm p tag count lot factor => Sys2Proof.Machine.execLoadFilm p tag count lot factor s
  | .unloadFilm p tag => Sys2Proof.Machine.execUnloadFilm p tag s
  | .readIndex p tag serial start => Sys2Proof.Machine.execReadIndex p tag serial start s
  | .readFrame p tag serial frame => Sys2Proof.Machine.execReadFrame p tag serial frame s
  | .setTitle p tag text => Sys2Proof.Machine.execSetTitle p tag text s
  | .fetchNotices p tag => Sys2Proof.Machine.execFetchNotices p tag s
  | .setNoticeMask p tag mask => Sys2Proof.Machine.execSetNoticeMask p tag mask s
  | .attentionDone p tag => Sys2Proof.Machine.execAttentionDone p tag s
  | .readStatus p tag => Sys2Proof.Machine.execReadStatus p tag s
  | .portReset p tag => Sys2Proof.Machine.execPortReset p tag s
  | .ageTimerExpiry => Sys2Proof.Machine.execAgeTimerExpiry s
  | .completionTimerExpiry => Sys2Proof.Machine.execCompletionTimerExpiry s
  | .pauseTimerExpiry => Sys2Proof.Machine.execPauseTimerExpiry s
  | .quietTimerExpiry p => Sys2Proof.Machine.execQuietTimerExpiry p s
  | .operationTimeout => Sys2Proof.Machine.execOperationTimeout s
  | .serialWriteComplete verified => Sys2Proof.Machine.execSerialWriteComplete verified s
  | .openingAdvanceComplete => Sys2Proof.Machine.execOpeningAdvanceComplete s
  | .finishingCutComplete => Sys2Proof.Machine.execFinishingCutComplete s
  | .leaderInAdvanceComplete => Sys2Proof.Machine.execLeaderInAdvanceComplete s
  | .leaderOutAdvanceComplete => Sys2Proof.Machine.execLeaderOutAdvanceComplete s
  | .stageArrival => Sys2Proof.Machine.execStageArrival s
  | .homingComplete => Sys2Proof.Machine.execHomingComplete s
  | .measurementComplete power => Sys2Proof.Machine.execMeasurementComplete power s
  | .lineEnd => Sys2Proof.Machine.execLineEnd s
  | .positionLoss => Sys2Proof.Machine.execPositionLoss s
  | .gateRelease => Sys2Proof.Machine.execGateRelease s
  | .frameStart => Sys2Proof.Machine.execFrameStart s
  | .grant => Sys2Proof.Machine.execGrant s
  | .rejection => Sys2Proof.Machine.execRejection s
  | .retakeUnfit => Sys2Proof.Machine.execRetakeUnfit s
  | .tryFailure => Sys2Proof.Machine.execTryFailure s
  | .retraceStart => Sys2Proof.Machine.execRetraceStart s
  | .rowsWritten => Sys2Proof.Machine.execRowsWritten s

end Sys2Proof.Machine
end

