-- ==== Sys2Proof/Machine/Step.lean ====
section
/-! DEFINITION. One step of the part: the command at the front of the queue, or one tick of the clock. -/

namespace Sys2Proof.Machine

/-- While no command waits the clock counts one tick of 10 ns (log entry 7), and a run of the arbiter goes on by itself
(log entry 14). -/
def tick (s : State) : State := goOn { s with now := s.now + 1 }

/-- The machine's step: the command at the front of the queue acts on the state with the rest of the queue; with
no command waiting a tick passes. -/
def step (s : State) : Host.Outcome State Fault Refusal :=
  match s.pending with
  | [] => .next (tick s)
  | c :: rest => exec c { s with pending := rest }

/-- The state with the command that a word spells put at the front of its queue; unchanged where it spells none. -/
def State.withFetchWord (s : State) (nbits w : Nat) : State :=
  match decodeTableWord nbits w with
  | some c => { s with pending := c :: s.pending }
  | none => s

end Sys2Proof.Machine
end

