-- ==== Sys2Proof/Safety.lean ====
section
/-! DEFINITION. What the statements about the part say, in the terms that they use: when a port takes a request, a
reply that is sent, and the invariants that every step keeps. -/

namespace Sys2Proof.Machine

/-! ## Requests and replies -/

/-- R174, R176, R177: the port takes a request of a kind: its link is UP, its handler is IDLE and its class permits
the kind. -/
def accepts (s : State) (p : Port) (k : Kind) : Prop :=
  (s.ports.get p).up = true ∧ (s.ports.get p).busy = none ∧ (k.bureauOnly = true → (s.ports.get p).cls = .bureau)

/-- R175: the state with one more reply handed to the link of a port, and nothing else changed. -/
def withReply (p : Port) (kind tag : Nat) (status : Status) (body : List Byte) (s : State) : State :=
  let r := s.ports.get p
  { s with ports := s.ports.set p { r with sent := r.sent ++ [⟨kind, tag, status, body⟩] } }

/-- R176: the state with the handler of a port BUSY with a request, and nothing else changed. -/
def withBusy (p : Port) (b : InFlight) (s : State) : State :=
  { s with ports := s.ports.set p { s.ports.get p with busy := some b } }

/-- The last reply that a port has been handed. -/
def lastReply (s : State) (p : Port) : Option Reply := (s.ports.get p).sent.getLast?

/-- R13: the sheet in the stage has entered CLOSING with a reason: its record is CLOSED with the reason, the age timer is
stopped, and the completion timer starts if a frame is PLACED with a page that is not COMPLETE. -/
def closedFor (reason : CloseReason) (s : State) : State :=
  { s with
    comp := { s.comp with
      sheet := .closing, age := none
      completion := if (currentFrames s).any fun f =>
          f.state == .placed && f.ref.any fun x => !pageComplete s x.page
        then some s.now else none }
    index := { s.index with current := s.index.current.map fun r =>
      { r with status := .closed, reason := some reason } } }

/-- R21, R23, R116: a cause has left the halt list; when the list becomes empty RESUMED goes to every port and a HELD
Writer is IDLE. -/
def withoutCause (c : HaltCause) (s : State) : State :=
  let left := s.comp.halts.filter (· != c)
  if left = [] then
    { s with
      comp := { s.comp with halts := [] }
      ports := s.ports.map (PortRec.raise .resumed)
      writer := { s.writer with mode := if s.writer.mode = .held then .idle else s.writer.mode } }
  else { s with comp := { s.comp with halts := left } }

/-- R21, R116: a cause has joined the end of the halt list, unless it stood there; HALTED goes to every port and an IDLE
Writer is HELD. -/
def withCause (c : HaltCause) (s : State) : State :=
  if c ∈ s.comp.halts then s
  else
    { s with
      comp := { s.comp with halts := s.comp.halts ++ [c] }
      ports := s.ports.map (PortRec.raise (.halted c))
      writer := { s.writer with mode := if s.writer.mode = .idle then .held else s.writer.mode } }

/-! ## The end of the serial write (R10, R23) -/

/-- R23: a RESUME of the port waits for the serial write. -/
def PortRec.awaitsWrite (r : PortRec) : Bool :=
  match r.busy with
  | some (.resumeSerial _) => true
  | some (.measureBeam _) | some (.resumeBeam _) | some (.putRows _) | none => false

/-- R23: a RESUME of the port that waits for the serial write is answered, and the port is IDLE. -/
def PortRec.writeAnswered (status : Status) (r : PortRec) : PortRec :=
  match r.busy with
  | some (.resumeSerial tag) => { r with busy := none, sent := r.sent ++ [⟨0x85, tag, status, []⟩] }
  | some (.measureBeam _) | some (.resumeBeam _) | some (.putRows _) | none => r

/-- R10, R23: the serial write of a sheet has verified: the cell holds the serial; where RESUMEs wait for the write SERIAL
leaves the halt list, if it stands there, and each of them is answered OK. -/
def writtenSerial (serial : Nat) (s : State) : State :=
  let stored := { s with comp := { s.comp with write := .verified, cell := serial } }
  let lifted := if HaltCause.serial ∈ s.comp.halts ∧ allPorts.any (fun p => (s.ports.get p).awaitsWrite) then
      withoutCause .serial stored
    else stored
  { lifted with ports := lifted.ports.map (PortRec.writeAnswered .ok) }

/-- R3: the sheet in the stage has entered OPEN, without the run of the arbiter: the pending mark set is its mark set, no
port is held, and SHEET_OPENED goes to every port. -/
def openedSheet (r : SheetRec) (s : State) : State :=
  { s with
    comp := { s.comp with
      sheet := .open, marks := s.comp.pendingMarks, pendingMarks := everyPort false, heldFlags := everyPort false }
    ports := s.ports.map (PortRec.raise (.sheetOpened r.serial r.layoutNo)) }

/-! ## What follows an event (R2, R12, R18, R19, R50, R147) -/

/-- R2, R12, R19: where the sheet state stands after the tests that follow an event: where it stood, or further on. -/
def sheetFollows : SheetState → SheetState → Bool
  | .unloaded, t => t == .unloaded
  | .idle, t => t == .idle || t == .opening
  | .opening, t => t == .opening
  | .open, t => t == .open || t == .closing || t == .indexing
  | .closing, t => t == .closing || t == .indexing
  | .indexing, t => t == .indexing || t == .finishing
  | .finishing, t => t == .finishing

/-- R8, R13, R19: what the tests that follow an event leave of a sheet record: all but its status, its close reason and
its title status, and every frame that is not an index frame. -/
structure RecordKept (r r' : SheetRec) : Prop where
  fields : r' = { r with status := r'.status, reason := r'.reason, title := r'.title, frames := r'.frames }
  frames : ∀ (n : Nat) (f : FrameRec), r.frames[n]? = some f → f.kind ≠ .index → r'.frames[n]? = some f
  size   : r'.frames.length = r.frames.length

/-- The state t arises from s when the Composer and the transport, after an event, go on by themselves: the arbiter's
run goes on or ends, the close conditions, the passages of the sheet and the opening conditions are tested, and the
transport begins what it may begin (R2, R12, R18, R19, R50, R147). Everything that is not named here as open is as in
s. -/
structure SettledFrom (s t : State) : Prop where
  model  : t.now = s.now ∧ t.choices = s.choices ∧ t.pending = s.pending
  ports  : ∀ p : Port, ∃ raised : List Notice,
    t.ports.get p = raised.foldl (fun r n => r.raise n) (s.ports.get p)
  docs   : t.docs = s.docs
  store  : t.store = s.store
  comp   : t.comp = { s.comp with
    sheet := t.comp.sheet, halts := t.comp.halts, exhausted := t.comp.exhausted, run := t.comp.run
    nextSerial := t.comp.nextSerial, greatest := t.comp.greatest, write := t.comp.write, age := t.comp.age
    completion := t.comp.completion, firstGrant := t.comp.firstGrant, advanced := t.comp.advanced
    finishDue := t.comp.finishDue }
  sheet  : sheetFollows s.comp.sheet t.comp.sheet = true
  halts  : t.comp.halts = s.comp.halts ∨ s.comp.sheet = .idle ∧ s.comp.halts = [] ∧ t.comp.halts = [.serial]
  serial : s.comp.sheet ≠ .idle → t.comp.exhausted = s.comp.exhausted ∧ t.comp.nextSerial = s.comp.nextSerial
    ∧ t.comp.greatest = s.comp.greatest ∧ t.comp.write = s.comp.write ∧ t.comp.firstGrant = s.comp.firstGrant
    ∧ t.comp.advanced = s.comp.advanced ∧ t.comp.finishDue = s.comp.finishDue
  dose   : t.dose = { s.dose with sheet := t.dose.sheet }
  latch  : s.comp.sheet ≠ .idle → t.dose.sheet = s.dose.sheet
  writer : t.writer = { s.writer with mode := t.writer.mode, sample := t.writer.sample }
  mode   : t.writer.mode = s.writer.mode ∨ s.writer.mode = .idle ∧ t.writer.mode = .held ∧ t.comp.halts = [.serial]
  beam   : t.beam = { s.beam with
    waiting := t.beam.waiting, inFlight := t.beam.inFlight, serving := t.beam.serving }
  film   : t.film = { s.film with
    count := t.film.count, stage := t.film.stage, motion := t.film.motion, queue := t.film.queue
    gateDue := t.film.gateDue, clamped := t.film.clamped }
  moving : s.film.motion ≠ none → t.film.motion = s.film.motion ∧ t.film.stage = s.film.stage
    ∧ t.film.gateDue = s.film.gateDue ∧ t.film.clamped = s.film.clamped ∧ t.writer.sample = s.writer.sample
    ∧ t.beam = s.beam
  quiet  : s.film.queue = [] → s.film.heldOp = none → s.film.rehome = false → s.comp.sheet ≠ .idle →
    s.comp.sheet ≠ .indexing → t.film = s.film ∧ t.writer = s.writer ∧ t.beam = s.beam
  index  : t.index = { s.index with current := t.index.current, rendered := t.index.rendered }
  record : s.comp.sheet ≠ .idle → match s.index.current, t.index.current with
    | some r, some r' => RecordKept r r'
    | none, none => True
    | _, _ => False

/-! ## A fault that spoils the frame in progress (R131) -/

/-- R21, R31, R56, R116, R131: between s and t a fault has spoiled the frame in progress, if there was one, with a cause,
and a cause has joined the halt list. The frame is SPOILED with its report closed, the title likewise; every other frame
that is not an index frame is as before. The page of a data frame has one spoil more and is LOST with the third; before it
a document that is not final has a retake added. FRAME_SPOILED goes to the owner and then HALTED to every port, unless the
halt cause stood in the list. The Writer is HELD once its frame is spoiled, and so is one that was IDLE. -/
structure FaultSpoils (cause : SpoilCause) (halt : HaltCause) (s t : State) : Prop where
  site   : t.writer.site = none ∧ (s.writer.site ≠ none → t.writer.report = none)
  mode   : t.writer.mode =
    if s.writer.site ≠ none ∨ s.writer.mode = .idle ∧ halt ∉ s.comp.halts then .held else s.writer.mode
  halts  : t.comp.halts = if halt ∈ s.comp.halts then s.comp.halts else s.comp.halts ++ [halt]
  record : ∀ r, s.index.current = some r → ∃ r', t.index.current = some r' ∧ r'.serial = r.serial
    ∧ r'.entries = r.entries
    ∧ (s.writer.site = none → RecordKept r r')
    ∧ (∀ n f rep, s.writer.site = some (.frame n) → s.writer.report = some rep → r.frames[n]? = some f →
        f.kind ≠ .index ∨ s.comp.sheet = .indexing → r'.frames[n]? = some { f with
          state := .spoiled
          report := some { rep with isSaturated := decide (0 < rep.saturated), cause := some cause } })
    ∧ (∀ rep, s.writer.site = some .title → s.writer.report = some rep → s.comp.sheet = .indexing →
        r'.title = .spoiled
        ∧ r'.titleReport = some { rep with isSaturated := decide (0 < rep.saturated), cause := some cause })
    ∧ ∀ (m : Nat) (g : FrameRec), s.writer.site ≠ some (.frame m) → r.frames[m]? = some g → g.kind ≠ .index →
        r'.frames[m]? = some g
  alone  : (∀ n r f, s.writer.site = some (.frame n) → s.index.current = some r → r.frames[n]? = some f →
      f.ref = none) → t.docs = s.docs ∧ t.comp.retakes = s.comp.retakes
        ∧ t.ports = if halt ∈ s.comp.halts then s.ports else s.ports.map (PortRec.raise (.halted halt))
  page   : ∀ n r f x d count ports, s.writer.site = some (.frame n) → s.index.current = some r →
    r.frames[n]? = some f → f.ref = some x → docOf s x.doc = some d →
    count = ((d.pages[x.index - 1]?).map (·.2.spoils)).getD 0 + 1 →
    ports = s.ports.set x.owner ((s.ports.get x.owner).raise (.frameSpoiled r.serial n x.doc x.index cause
      (if 3 ≤ count then .pageLost else if d.state.isFinal then .neither else .retakeAdded))) →
    docOf t x.doc = some (d.modPage x.index fun m =>
        { spoils := count, outcome := if 3 ≤ count then .lost else m.outcome })
      ∧ (∀ h, h ≠ x.doc → docOf t h = docOf s h) ∧ t.docs.queues = s.docs.queues
      ∧ t.comp.retakes = s.comp.retakes ++ (if 3 ≤ count ∨ d.state.isFinal = true then []
          else [⟨x.page, x.doc, x.owner, x.index, count, r.serial, n⟩])
      ∧ t.ports = if halt ∈ s.comp.halts then ports else ports.map (PortRec.raise (.halted halt))

/-! ## The start of a frame (R92 to R95, R98, R119, R154) -/

/-- R93 to R95: g is the geometry of a raster of w × h dots at the nominal pitch p0 in a frame area: its scale is the
largest from 32 to 64 at which both extents fit, its pitch is at most 100,000 nm, and the raster is centred. -/
def FittedGeometry (p0 w h fw fh : Nat) (g : Geometry) : Prop :=
  g.width = w ∧ g.height = h ∧ 32 ≤ g.scale ∧ g.scale ≤ 64
  ∧ w * (p0 * g.scale / 64) ≤ fw ∧ h * (p0 * g.scale / 64) ≤ fh
  ∧ (∀ k, g.scale < k → k ≤ 64 → ¬ (w * (p0 * k / 64) ≤ fw ∧ h * (p0 * k / 64) ≤ fh))
  ∧ g.pitch = min (p0 * g.scale / 64) 100000 ∧ g.ox = (fw - w * g.pitch) / 2 ∧ g.oy = (fh - h * g.pitch) / 2

/-- R92 to R95: the page is not UNFIT on the layout, and g is its geometry there: a quarter turn exchanges its extents. -/
def PageGeometryIs (pg : Page) (l : Layout) (g : Geometry) : Prop :=
  1000 ≤ g.pitch
  ∧ (pg.rotation = .r0 ∨ pg.rotation = .r180 →
      FittedGeometry (25400000 / (pg.dpi * l.reduction)) pg.width pg.height (l.width * 1000) (l.height * 1000) g)
  ∧ (pg.rotation = .r90 ∨ pg.rotation = .r270 →
      FittedGeometry (25400000 / (pg.dpi * l.reduction)) pg.height pg.width (l.width * 1000) (l.height * 1000) g)

/-- R98: g is the geometry of an index page on a layout: 608 × 800 at 150 dpi; where no scale fits it is written at 32 and
clipped to the frame area. -/
def IndexGeometryIs (l : Layout) (g : Geometry) : Prop :=
  ∃ p0 p fw fh : Nat, p0 = 25400000 / (150 * l.reduction) ∧ p = min (p0 * 32 / 64) 100000
    ∧ fw = l.width * 1000 ∧ fh = l.height * 1000
    ∧ (FittedGeometry p0 608 800 fw fh g
      ∨ (∀ k, 32 ≤ k → k ≤ 64 → ¬ (608 * (p0 * k / 64) ≤ fw ∧ 800 * (p0 * k / 64) ≤ fh))
        ∧ g = ⟨min 608 (fw / p), min 800 (fh / p), 32, p, (fw - min 608 (fw / p) * p) / 2,
            (fh - min 800 (fh / p) * p) / 2⟩)

/-- R119, R133: a report has been opened with a geometry: nothing of it has been written, and no flag but STREAMED is
set. -/
def Report.openedWith (g : Geometry) (streamed : Bool) (rep : Report) : Prop :=
  rep = { width := g.width, height := g.height, scale := g.scale, pitch := g.pitch, ox := g.ox, oy := g.oy
          pStart := 0, pMin := 0, pMax := 0, lines := 0, saturated := 0
          isSaturated := false, isDrift := false, isStreamed := streamed, cause := none }

/-- R119, R120, R147, R154: between s and t the Writer has asked for a stage move, with the halt list empty. The move runs,
waits in the queue, or has ended at once, with the starting sample asked for. A transport at rest with nothing to recover
begins it, and one whose stage stands at the place has arrived. -/
structure MoveAskedFor (place : Place) (s t : State) : Prop where
  asked : motionOp t = some (.stageMove place true) ∨ Operation.stageMove place true ∈ t.film.queue
    ∨ t.film.stage = .atSite place ∧ t.writer.sample = some .start
      ∧ (Requester.writer ∈ t.beam.waiting ∨ Requester.writer ∈ t.beam.serving)
  rest  : s.film.motion = none → s.film.queue = [] → s.film.heldOp = none → s.film.rehome = false →
    (s.film.stage = .atSite place → t.film = s.film ∧ t.writer.sample = some .start)
    ∧ (s.film.stage ≠ .atSite place → s.film.stage ≠ .lost →
        t.film = { s.film with stage := .moving, motion := some ⟨.stageMove place true, s.now⟩ }
        ∧ t.writer.sample = none ∧ t.beam = s.beam)

/-! ## The Image Store (R71, R72) -/

/-- The lengths of the row maps of some pages, added up. -/
def mappedBlocks (pages : Table Page) : Nat := (pages.map (·.2.rowMap.length)).sum

/-- R71, R72: the block memory is in its canonical form; handles rise and are below 1024; each of the 2048 blocks is
either on the free list or in exactly one row map, once; each page's rows lie in its blocks; a port's held count is
the number of blocks of its pages. -/
structure StoreSound (s : State) : Prop where
  memory  : memoryWf s.store.memory = true
  rising  : s.store.pages.Pairwise fun x y => x.1 < y.1
  handles : ∀ x ∈ s.store.pages, x.1 < 1024
  blocks  : (s.store.freeList ++ s.store.pages.flatMap (·.2.rowMap)).Perm (List.range 2048)
  mapped  : ∀ x ∈ s.store.pages, pageMapped x.2 = true
  held    : ∀ p : Port, s.store.held.get p = mappedBlocks (s.store.pages.filter (·.2.owner == p))

/-- R71: the block map has a record per block: FREE for the blocks of the free list, and for each block of a row map
the page and the position. -/
structure BlockMapAgrees (s : State) : Prop where
  size : s.store.blockMap.length = 2048
  free : ∀ b ∈ s.store.freeList, s.store.blockMap[b]? = some none
  used : ∀ x ∈ s.store.pages, ∀ i b, x.2.rowMap[i]? = some b → s.store.blockMap[b]? = some (some (BlockUse.mk x.1 i))

/-! ## The port queues (R33) -/

/-- The documents named by items, in order. -/
def itemDocs (items : List Item) : List Nat :=
  items.filterMap fun i => match i with | .doc h => some h | .mark => none

/-- R33, R35: in each port queue the cursor stands at an item or at the end, no document stands twice, each item names
a document of that port that is not final, and the cursor has passed only documents that are fully placed. -/
structure QueuesSound (s : State) : Prop where
  cursor : ∀ p : Port, (s.docs.queues.get p).cursor ≤ (s.docs.queues.get p).items.length
  once   : ∀ p : Port, (itemDocs (s.docs.queues.get p).items).Nodup
  owned  : ∀ p : Port, ∀ h ∈ itemDocs (s.docs.queues.get p).items,
    ∃ d, docOf s h = some d ∧ d.owner = p ∧ d.state.isFinal = false
  passed : ∀ p : Port, ∀ h ∈ itemDocs ((s.docs.queues.get p).items.take (s.docs.queues.get p).cursor),
    ∃ d, docOf s h = some d ∧ d.state = .placed

/-! ## Bounds of the collections (R21, R28, R33, R73, R77, R137, R160, R180) -/

/-- The collections of the part stay within the sizes that the spec gives them. -/
structure WithinBounds (s : State) : Prop where
  notices : ∀ p : Port, (s.ports.get p).notices.length ≤ 32
  items   : ∀ p : Port, (s.docs.queues.get p).items.length ≤ 128
  docs    : s.docs.table.Pairwise (fun x y => x.1 < y.1) ∧ ∀ x ∈ s.docs.table, x.1 < 512
  quota   : ∀ p : Port, s.store.quota.get p ≤ 2048
  halts   : s.comp.halts.Nodup
  waiting : s.beam.waiting.Nodup ∧ s.beam.serving.Nodup
  ring    : s.index.ring.length ≤ 64

/-! ## Serials (R9, R160) -/

/-- R9, R160: the cell, the greatest serial taken and the next serial stand in this order; the sheet in the stage
carries the greatest serial; serials rise along the ring and up to the sheet in the stage. -/
structure SerialsRise (s : State) : Prop where
  cell    : s.comp.cell ≤ s.comp.greatest
  next    : s.comp.greatest < s.comp.nextSerial
  last    : s.comp.nextSerial ≤ 100000000
  current : ∀ r, s.index.current = some r → r.serial = s.comp.greatest
  ring    : s.index.ring.Pairwise fun x y => x.serial < y.serial
  below   : ∀ x ∈ s.index.ring, x.serial ≤ s.comp.greatest
    ∧ ∀ r, s.index.current = some r → x.serial < r.serial

/-! ## Entries (R52) -/

/-- R52: no sheet record holds more than 96 entries for each index frame of its layout. -/
def EntriesFit (s : State) : Prop :=
  ∀ r, s.index.current = some r ∨ r ∈ s.index.ring → r.entries.length ≤ 96 * r.layout.index

/-! ## Settings (R4, R20, R91, R105, R112, R136, R146, R172) -/

/-- R4: a layout's fields are within their ranges. -/
def Layout.inRange (l : Layout) : Prop :=
  1 ≤ l.rows ∧ l.rows ≤ 12 ∧ 1 ≤ l.cols ∧ l.cols ≤ 24 ∧ 1 ≤ l.index ∧ l.index ≤ 4 ∧ l.index < l.rows * l.cols
    ∧ l.rows * l.cols ≤ 208 ∧ 12 ≤ l.reduction ∧ l.reduction ≤ 64 ∧ 2000 ≤ l.width ∧ l.width ≤ 30000
    ∧ 2000 ≤ l.height ∧ l.height ≤ 30000

/-- R91: a tone map: 16 entries, each 0 to 255. -/
def toneMapSound (m : List Nat) : Prop := m.length = 16 ∧ ∀ t ∈ m, t ≤ 255

/-- R91: a density curve: 256 entries, each 0 to 2500. -/
def curveSound (c : List Nat) : Prop := c.length = 256 ∧ ∀ e ∈ c, e ≤ 2500

/-- R91, R112: a film response table: 26 points, each 0 to 65,535, non-decreasing. -/
def responseSound (f : List Nat) : Prop := f.length = 26 ∧ (∀ x ∈ f, x ≤ 65535) ∧ f.Pairwise (· ≤ ·)

/-- Every setting, staged and latched, is within the range that the spec gives it. -/
structure SettingsInRange (s : State) : Prop where
  limits   : 1 ≤ s.comp.pauseLimit ∧ s.comp.pauseLimit ≤ 60 ∧ 10 ≤ s.comp.completionLimit
    ∧ s.comp.completionLimit ≤ 3600 ∧ (s.comp.ageLimit = 0 ∨ 30 ≤ s.comp.ageLimit ∧ s.comp.ageLimit ≤ 14400)
  layouts  : s.comp.layouts.length = 4 ∧ (∀ l ∈ s.comp.layouts, l.inRange) ∧ s.comp.nextLayout ≤ 3
  latched  : ∀ r, s.index.current = some r ∨ r ∈ s.index.ring → r.layout.inRange ∧ r.layoutNo ≤ 3 ∧ r.bank ≤ 1
  tones    : ∀ p : Port, toneMapSound (s.dose.tones.get p)
  overlay  : s.dose.glyphTone ≤ 255 ∧ s.dose.cellTone ≤ 255
  writer   : 1 ≤ s.dose.gain ∧ s.dose.gain ≤ 1023 ∧ 16 ≤ s.dose.dotTime ∧ s.dose.dotTime ≤ 1023
  curves   : curveSound s.dose.bank0 ∧ curveSound s.dose.bank1 ∧ s.dose.bankSel ≤ 1
  response : responseSound s.dose.response
  frame    : toneMapSound s.dose.frame.tone ∧ s.dose.frame.glyphTone ≤ 255 ∧ s.dose.frame.cellTone ≤ 255
    ∧ 1 ≤ s.dose.frame.gain ∧ s.dose.frame.gain ≤ 1023 ∧ 16 ≤ s.dose.frame.dotTime ∧ s.dose.frame.dotTime ≤ 1023
  sheet    : s.dose.sheet.bank ≤ 1 ∧ responseSound s.dose.sheet.response ∧ 512 ≤ s.dose.sheet.lot
    ∧ s.dose.sheet.lot ≤ 2047
  window   : s.beam.floorIndex ≤ 15 ∧ 1 ≤ s.beam.drift ∧ s.beam.drift ≤ 64
  film     : s.film.count ≤ 2000 ∧ s.film.lot.length = 8 ∧ 512 ≤ s.film.factor ∧ s.film.factor ≤ 2047
  title    : s.index.template.length ≤ 32

/-- R105: the pulses of the line being written are 0 or between 2 and T_dot - 2 ticks. -/
def PulsesInSlot (s : State) : Prop :=
  ∀ w ∈ s.writer.pulses, w = 0 ∨ 2 ≤ w ∧ w + 2 ≤ s.dose.frame.dotTime

/-! ## The dots of a line (R79, R96, R99 to R106, R125, R126, R168 to R171) -/

/-- A text cut or followed by spaces to a width. -/
def padded (width : Nat) (t : Text) : Text := (List.range width).map fun i => t.getD i 0x20#8

/-- The decimal digits of a number, so many of them. -/
def decimalDigits (count n : Nat) : Text :=
  (List.range count).map fun i => BitVec.ofNat 8 (0x30 + n / 10 ^ (count - 1 - i) % 10)

/-- R7: the address of a frame: the letter of its row, A first, and its column, counted from 1, as two digits. -/
def addressText (l : Layout) (n : Nat) : Text := BitVec.ofNat 8 (0x41 + n / l.cols) :: decimalDigits 2 (n % l.cols + 1)

/-- R125: the imprint: the serial as eight digits, a space, the address, a space, the first 11 characters of the key. -/
def imprintOf (serial : Nat) (l : Layout) (n : Nat) (key : Text) : Text :=
  decimalDigits 8 serial ++ [0x20#8] ++ addressText l n ++ [0x20#8] ++ padded 11 key

/-- R126, R170, R171: the glyph of the character at a position of a text marks a dot of its row and column; a space and a
position without a character mark none. The glyphs are free values (log entry 1). -/
def GlyphMarks (text : Text) (position row col : Nat) : Prop :=
  ∃ ch : Byte, text[position]? = some ch ∧ ch ≠ 0x20#8 ∧ Config.glyph ch.toNat row col = true

/-- R100, R126: the overlay value of the dot at written row j and column i of a raster, under an imprint: 1 on the marked
dots of the glyphs in the character cells of the bottom 16 rows, 2 elsewhere in the cells, 0 outside. -/
def OverlayIs (side : Imprint) (imprint : Option Text) (g : Geometry) (j i overlay : Nat) : Prop :=
  (imprint = none → overlay = 0)
  ∧ ∀ (text : Text) (cells left : Nat) (inside marked : Prop), imprint = some text → cells = min 24 (g.width / 8) →
    left = (if side = .bottomRight then g.width - 8 * cells else 0) →
    (inside ↔ 16 ≤ g.height ∧ 8 ≤ g.width ∧ g.height - 16 ≤ j ∧ left ≤ i ∧ i < left + 8 * cells) →
    (marked ↔ 2 ≤ j - (g.height - 16) ∧ j - (g.height - 16) ≤ 13
      ∧ GlyphMarks text ((i - left) / 8) (j - (g.height - 16) - 2) ((i - left) % 8)) →
    (¬ inside → overlay = 0) ∧ (inside → marked → overlay = 1) ∧ (inside → ¬ marked → overlay = 2)

/-- R79, R96, R99, R100: the tone of the dot at written row j and column i of a page: the pixel that the rotation names,
unpacked from its row from the most significant bits down, through the tone map that is latched, or the entry of the
overlay map for an overlay value of 1 or 2. -/
def PageTone (s : State) (side : Imprint) (pg : Page) (j i tone : Nat) : Prop :=
  ∃ row col v overlay : Nat,
    (row, col) = (match pg.rotation with
      | .r0 => (j, i)
      | .r90 => (pg.height - 1 - i, j)
      | .r180 => (pg.height - 1 - j, pg.width - 1 - i)
      | .r270 => (i, pg.width - 1 - j))
    ∧ v = (memoryRead s.store.memory (rowAddress pg row + col * pg.depth / 8)).toNat
        / 2 ^ (8 - pg.depth - col * pg.depth % 8) % 2 ^ pg.depth
    ∧ OverlayIs side s.writer.imprint s.writer.geometry j i overlay
    ∧ (overlay = 0 → (pg.depth = 8 → tone = v) ∧ (pg.depth = 4 → s.dose.frame.tone[v]? = some tone)
        ∧ (pg.depth = 2 → s.dose.frame.tone[5 * v]? = some tone) ∧ (pg.depth = 1 → s.dose.frame.tone[15 * v]? = some tone))
    ∧ (overlay = 1 → tone = s.dose.frame.glyphTone) ∧ (overlay = 2 → tone = s.dose.frame.cellTone)

/-- R99, R168 to R171: the tone of the dot at written row j and column i of the site in progress. That of a frame with a
page is the page's. An index frame and the title take tone 0 where a glyph of their rendered text marks the dot, 255
elsewhere: a glyph stands in rows 2 to 13 of its 8 × 16 cell of an index page, and at double size in its 16 × 24 cell of
the title. -/
def DotTone (s : State) (r : SheetRec) (j i tone : Nat) : Prop :=
  (∀ n f x pg, s.writer.site = some (.frame n) → r.frames[n]? = some f → f.ref = some x →
    tableGet s.store.pages x.page = some pg → PageTone s r.layout.imprint pg j i tone)
  ∧ (∀ (n : Nat) (f : FrameRec) (marked : Prop), s.writer.site = some (.frame n) → r.frames[n]? = some f → f.ref = none →
    (marked ↔ 2 ≤ j % 16 ∧ j % 16 ≤ 13 ∧ ∃ x page text, s.index.rendered = some x
      ∧ x.pages[n - r.layout.dataFrames]? = some page ∧ page[j / 16]? = some text
      ∧ GlyphMarks text (i / 8) (j % 16 - 2) (i % 8)) →
    (marked → tone = 0) ∧ (¬ marked → tone = 255))
  ∧ ∀ marked : Prop, s.writer.site = some .title →
    (marked ↔ ∃ x text, s.index.rendered = some x ∧ x.title[j / 24]? = some text
      ∧ GlyphMarks text (i / 16) (j % 24 / 2) (i % 16 / 2)) →
    (marked → tone = 0) ∧ (¬ marked → tone = 255)

/-- R101 to R104: the pulse width of a tone before the limits of the modulator: its density is the entry of the latched
curve bank, its dose the interpolation of the latched film response, corrected by the lot factor and divided by the product
of the reading and the gain, rounded to the nearest tick. -/
def PulseIs (d : DoseUnit) (reading tone width : Nat) : Prop :=
  ∃ density dose : Nat, (if d.sheet.bank = 0 then d.bank0 else d.bank1)[tone]? = some density
    ∧ (density = 2500 → d.sheet.response[25]? = some dose)
    ∧ (density < 2500 → ∃ low high, d.sheet.response[density / 100]? = some low
        ∧ d.sheet.response[density / 100 + 1]? = some high
        ∧ dose = low + (high - low) * (density - 100 * (density / 100)) / 100)
    ∧ width = (if dose * d.sheet.lot / 1024 = 0 then 0
        else (dose * d.sheet.lot / 1024 * 1024 + reading * d.frame.gain / 2) / (reading * d.frame.gain))

/-- R105, R106, R122: the pulses and the saturated number of written line j of the site in progress at a reading: a dot for
each column of the raster, its width brought within the limits: 1 becomes 2, and a width above T_dot - 2 becomes T_dot - 2
and counts as saturated. -/
def LineIs (s : State) (r : SheetRec) (j reading : Nat) (pulses : List Nat) (saturated : Nat) : Prop :=
  ∃ widths : List Nat, widths.length = s.writer.geometry.width
    ∧ (∀ i w, widths[i]? = some w → ∃ tone, DotTone s r j i tone ∧ PulseIs s.dose reading tone w)
    ∧ pulses = widths.map (fun w => if w = 1 then 2 else min w (s.dose.frame.dotTime - 2))
    ∧ saturated = widths.countP (fun w => decide (s.dose.frame.dotTime - 2 < w))

/-! ## The rendered pages (R164, R168, R169) -/

/-- R164, R169: the status letter of an entry: V or I by its mark; without one S when a frame that its runs name is SPOILED,
E when every one is EXPOSED, and a space when it still reads PLACED. -/
def LetterIs (frames : List FrameRec) (e : Entry) (letter : Byte) : Prop :=
  (e.mark = some .void → letter = 0x56#8) ∧ (e.mark = some .incomplete → letter = 0x49#8)
  ∧ ∀ spoiled exposed : Prop, e.mark = none →
    (spoiled ↔ ∃ n ∈ e.frames, ∃ f, frames[n]? = some f ∧ f.state = .spoiled) →
    (exposed ↔ ∀ n ∈ e.frames, ∃ f, frames[n]? = some f ∧ f.state = .exposed) →
    (spoiled → letter = 0x53#8) ∧ (¬ spoiled → exposed → letter = 0x45#8) ∧ (¬ spoiled → ¬ exposed → letter = 0x20#8)

/-- R168: the first frame of an entry's first run. -/
def firstFrameOf (e : Entry) : Nat := ((e.runs.head?).map (·.first)).getD 0

/-- R169: slot k, counted from 0 over all the index pages, of the entries in frame order: the 38 characters of the entry's
line, or spaces. -/
def SlotIs (r : SheetRec) (order : List Entry) (k : Nat) (line : Text) : Prop :=
  (order.length ≤ k → line = padded 38 [])
  ∧ ∀ e, order[k]? = some e → ∃ letter, LetterIs r.frames e letter
    ∧ line = padded 24 e.key ++ [0x20#8] ++ addressText r.layout (firstFrameOf e) ++ [0x20#8]
        ++ [if e.pageCount < 100 then 0x20#8 else BitVec.ofNat 8 (0x30 + e.pageCount / 100 % 10),
            if e.pageCount < 10 then 0x20#8 else BitVec.ofNat 8 (0x30 + e.pageCount / 10 % 10),
            BitVec.ofNat 8 (0x30 + e.pageCount % 10), 0x20#8, letter, 0x20#8,
            if e.kind = .normal then 0x50#8 else 0x52#8]
        ++ decimalDigits 2 e.num

/-! ## The sheet, the film and the frame in progress (R1, R8, R115, R117, R146) -/

/-- R147: the operation moves film. -/
def Operation.isFilm : Operation → Bool
  | .leaderIn | .leaderOut | .opening | .finishing => true
  | .stageMove _ _ | .homing => false

/-- The film operations asked for and not yet completed: in motion, interrupted (unless it is the one in motion, being
repeated), and waiting in the request queue. -/
def filmOps (s : State) : List Operation :=
  ((motionOp s).toList ++ (if s.film.heldOp = motionOp s then [] else s.film.heldOp.toList) ++ s.film.queue).filter
    Operation.isFilm

/-- R146: the film state agrees with the sheet state, and the film operations outstanding are those that the two
states call for. -/
def filmAgrees (s : State) : Prop :=
  match s.comp.sheet with
  | .unloaded =>
    (s.film.film = .empty ∧ filmOps s = []) ∨ (s.film.film = .loading ∧ filmOps s = [.leaderIn])
      ∨ (s.film.film = .unloading ∧ filmOps s = [.leaderOut])
  | .idle | .open | .closing | .indexing => s.film.film = .loaded ∧ filmOps s = []
  | .opening => s.film.film = .loaded ∧ filmOps s = if s.comp.advanced then [] else [.opening]
  | .finishing =>
    s.film.film = .loaded
      ∧ (if s.comp.finishDue then filmOps s = [] ∨ filmOps s = [.opening]
         else filmOps s = [.finishing] ∨ filmOps s = [.opening, .finishing])

/-- R8, R115: the frame is in progress. -/
def FrameState.inProgress (f : FrameState) : Bool := f == .exposing || f == .paused

/-- R115, R117: the site in progress suits the sheet state: a data frame in OPEN and CLOSING, an index frame in
INDEXING, each EXPOSING or PAUSED; the title in INDEXING, its status PENDING. -/
def siteAgrees (s : State) : Prop :=
  match s.writer.site, s.index.current with
  | none, _ => True
  | some _, none => False
  | some .title, some r => s.comp.sheet = .indexing ∧ r.title = .pending
  | some (.frame n), some r =>
    ∃ f, r.frames[n]? = some f ∧ f.state.inProgress = true
      ∧ ((s.comp.sheet = .indexing ∧ f.kind = .index)
          ∨ ((s.comp.sheet = .open ∨ s.comp.sheet = .closing) ∧ f.kind ≠ .index))

/-- R1, R8, R115, R117, R146, R160: the sheet state, the film state, the transport, the record of the sheet in the
stage and the Frame Writer agree: there is a record from OPENING to FINISHING and not otherwise; the film operations
are those that the state calls for; a frame EXPOSING or PAUSED is the Writer's frame in progress, and the Writer has
none in IDLE and HELD. -/
structure PhaseSound (s : State) : Prop where
  record   : s.index.current.isSome = sheetInStage s
  film     : filmAgrees s
  due      : s.comp.finishDue = true → s.comp.sheet = .finishing
  held     : ∀ op, s.film.heldOp = some op → op.isFilm = true
    ∧ ∀ m, motionOp s = some m → m.isFilm = true → m = op
  progress : ∀ n f, frameOf s n = some f → f.state.inProgress = true → s.writer.site = some (.frame n)
  rest     : s.writer.mode = .idle ∨ s.writer.mode = .held → s.writer.site = none
  site     : siteAgrees s

/-- R119: a frame in progress has its report open. -/
def ReportOpen (s : State) : Prop := s.writer.site ≠ none → s.writer.report ≠ none

/-- R8: on its sheet the frame does not change state again. -/
def FrameState.isOutcome : FrameState → Bool
  | .exposed | .spoiled | .void => true
  | .free | .placed | .ready | .exposing | .paused => false

/-- The bytes of the block memory that the rows of an accepted PUT ROWS take. -/
def rowBytesAt (pg : Page) (first count a : Nat) : Prop :=
  ∃ r, first ≤ r ∧ r < first + count ∧ rowAddress pg r ≤ a ∧ a < rowAddress pg r + pg.rowBytes

end Sys2Proof.Machine
end

