-- ==== Sys2Proof/WellFormed.lean ====
section
/-! DEFINITION. Well-formed commands: every operand fits the field that R175, R179 and R181 give it on the
link, texts and lists have the lengths their requests state, and a reading is on the sensor's scale (R136).
An ill-formed command cannot arrive; the meanings answer on it all the same (they refuse a list of a wrong
length, and a value out of its range, with BAD_VALUE; log entry 31). -/

namespace Sys2Proof

/-- A number that one byte holds (R179). -/
def fits8 (n : Nat) : Bool := decide (n < 256)

/-- A number that two bytes hold (R179). -/
def fits16 (n : Nat) : Bool := decide (n < 65536)

/-- A number that four bytes hold (R179). -/
def fits32 (n : Nat) : Bool := decide (n < 4294967296)

/-- Every operand of the command fits its field on the link (R175, R179), so that the command can arrive. -/
def Instr.wellFormed : Instr → Bool
  | .unknownRequest _ tag kind => fits8 tag && fits8 kind
  | .selectLayout _ tag entry => fits8 tag && fits8 entry
  | .setLayout _ tag entry rows cols index red w h imprint =>
      fits8 tag && fits8 entry && fits8 rows && fits8 cols && fits8 index && fits8 red && fits16 w && fits16 h
        && fits8 imprint
  | .closeSheet _ tag | .halt _ tag | .resume _ tag | .abortSheet _ tag | .batchMark _ tag | .measureBeam _ tag
  | .unloadFilm _ tag | .fetchNotices _ tag | .attentionDone _ tag | .readStatus _ tag | .portReset _ tag => fits8 tag
  | .setLimits _ tag pause completion age _ => fits8 tag && fits8 pause && fits16 completion && fits16 age
  | .setCloseGroup _ tag ports => fits8 tag && fits8 ports
  | .setSerial _ tag value => fits8 tag && fits32 value
  | .submitDocument _ tag key cls _ count pages =>
      fits8 tag && decide (key.length < 256) && fits8 cls && fits8 count && pages.all fits16
        && decide (key.length + 2 * pages.length + 4 ≤ 16400)
  | .cancelDocument _ tag h | .queryDocument _ tag h | .queryPage _ tag h | .dropPage _ tag h =>
      fits8 tag && fits16 h
  | .definePage _ tag w h depth dpi rot =>
      fits8 tag && fits16 w && fits16 h && fits8 depth && fits16 dpi && fits8 rot
  | .putRows _ tag page first count data =>
      fits8 tag && fits16 page && fits16 first && fits16 count && decide (data.length + 6 ≤ 16400)
  | .setQuota _ tag port value => fits8 tag && fits8 port && fits16 value
  | .setToneMap _ tag port map => fits8 tag && fits8 port && decide (map.length = 16) && map.all fits8
  | .setOverlayMap _ tag g c => fits8 tag && fits8 g && fits8 c
  | .writeCurve _ tag bank start count entries =>
      fits8 tag && fits8 bank && fits8 start && fits8 count && entries.all fits16
        && decide (2 * entries.length + 3 ≤ 16400)
  | .selectCurveBank _ tag bank => fits8 tag && fits8 bank
  | .setFilmResponse _ tag points => fits8 tag && decide (points.length = 26) && points.all fits16
  | .setWriter _ tag g t => fits8 tag && fits16 g && fits16 t
  | .setBeamWindow _ tag f d => fits8 tag && fits8 f && fits8 d
  | .loadFilm _ tag count lot factor => fits8 tag && fits16 count && decide (lot.length = 8) && fits16 factor
  | .readIndex _ tag serial start => fits8 tag && fits32 serial && fits16 start
  | .readFrame _ tag serial frame => fits8 tag && fits32 serial && fits8 frame
  | .setTitle _ tag text => fits8 tag && decide (text.length < 256)
  | .setNoticeMask _ tag mask => fits8 tag && fits16 mask
  | .measurementComplete power => decide (power ≤ 2047)
  | .powerOn _ | .deviceReset _ | .linkUp _ | .linkDown _ | .badFrame _ | .ageTimerExpiry | .completionTimerExpiry
  | .pauseTimerExpiry | .quietTimerExpiry _ | .operationTimeout | .serialWriteComplete _ | .openingAdvanceComplete
  | .finishingCutComplete | .leaderInAdvanceComplete | .leaderOutAdvanceComplete | .stageArrival | .homingComplete
  | .lineEnd | .positionLoss | .gateRelease | .frameStart | .grant | .rejection | .retakeUnfit | .tryFailure
  | .retraceStart | .rowsWritten => true

end Sys2Proof
end

