-- ==== Sys2Proof/Certificates/Slice0/Obligations.lean ====
section
/-! DEFINITION. The statements about the part, for the provers. A number such as 0x81 in a reply is the kind byte, the
request's kind code + 0x80 (R175, R177); times are ticks of 10 ns (1.7). A reply that is handed to its link stands in
`sent` (log entry 9). -/

open Sys2Proof Sys2Proof.Machine

/-! ## Steps -/

/-- The command at the front of the queue is taken and run on the state with the rest of the queue. With no command
waiting a tick of the clock passes, the model's choice (log entry 7): without a run of the arbiter nothing else happens,
and a run goes on by itself or ends (log entry 14), which changes what may change after an event and nothing else. -/
def Obligations.StepTakesTheFrontCommand : Prop :=
  (∀ (s : State) (c : Instr) (rest : List Instr),
    s.pending = c :: rest → step s = exec c { s with pending := rest })
  ∧ (∀ s : State, s.pending = [] → s.comp.run = none → step s = .next { s with now := s.now + 1 })
  ∧ ∀ s : State, s.pending = [] → ∃ t, step s = .next t ∧ SettledFrom { s with now := s.now + 1 } t

/-- No command changes the queue of the commands that wait, and the clock never goes back (log entries 7 and 8). -/
def Obligations.CommandsKeepQueueAndClock : Prop :=
  ∀ (c : Instr) (s t : State), exec c s = .next t → t.pending = s.pending ∧ s.now ≤ t.now ∧ s.choices ≤ t.choices

/-! ## Line Ports (chapter 10) -/

/-- R175 to R177, R179: the frame of a well-formed request is received as that request. Where R179 leaves the code of a
value or the form of a list to its reader, the codes and forms are those of log entry 21. -/
def Obligations.EncodedRequestIsReceived : Prop :=
  ∀ (i : Instr) (p : Port) (k : Kind) (tag : Nat) (body bytes : List Byte),
    i.wellFormed = true → requestOf i = some (p, k, tag, body) → encode i = some bytes → receive p bytes = some i

/-- R174, R176, R177: what a port tests before a request reaches its block: on a DOWN link nothing is received; a BUSY
handler answers BUSY; a FEEDER port's request of a BUREAU kind is answered NOT_PERMITTED. Nothing else changes. -/
def Obligations.PortsTestRequestsFirst : Prop :=
  ∀ (i : Instr) (p : Port) (k : Kind) (tag : Nat) (body : List Byte) (s : State),
    requestOf i = some (p, k, tag, body) →
    ((s.ports.get p).up = false → exec i s = .next s)
    ∧ ((s.ports.get p).up = true → (s.ports.get p).busy ≠ none →
        exec i s = .next (withReply p (k.code + 0x80) tag .busy [] s))
    ∧ ((s.ports.get p).up = true → (s.ports.get p).busy = none → k.bureauOnly = true →
        (s.ports.get p).cls = .feeder → exec i s = .next (withReply p (k.code + 0x80) tag .notPermitted [] s))

/-- R176, R177: a frame that fails test 1 is answered BAD_FRAME with kind byte 0x80 and tag 0, whatever the handler's
state. A kind that names no request is answered BUSY by a BUSY handler and UNKNOWN_REQUEST by an IDLE one, with the kind
byte that log entry 36 names. A frame whose body has not the form of its kind takes the tests of the port, and the block
refuses it with BAD_VALUE, which is the model's choice (log entry 22). Nothing else changes. -/
def Obligations.BadAndUnknownFramesAreAnswered : Prop :=
  ∀ (s : State) (p : Port), (s.ports.get p).up = true →
    exec (.badFrame p) s = .next (withReply p 0x80 0 .badFrame [] s)
    ∧ (∀ tag kind : Nat, kind = 0 ∨ 0x24 < kind →
        ((s.ports.get p).busy = none →
          exec (.unknownRequest p tag kind) s = .next (withReply p ((kind + 0x80) % 256) tag .unknownRequest [] s))
        ∧ ((s.ports.get p).busy ≠ none →
          exec (.unknownRequest p tag kind) s = .next (withReply p ((kind + 0x80) % 256) tag .busy [] s)))
    ∧ ∀ (tag : Nat) (k : Kind),
        ((s.ports.get p).busy ≠ none →
          exec (.unknownRequest p tag k.code) s = .next (withReply p (k.code + 0x80) tag .busy [] s))
        ∧ ((s.ports.get p).busy = none → k.bureauOnly = true → (s.ports.get p).cls = .feeder →
          exec (.unknownRequest p tag k.code) s = .next (withReply p (k.code + 0x80) tag .notPermitted [] s))
        ∧ (accepts s p k →
          exec (.unknownRequest p tag k.code) s = .next (withReply p (k.code + 0x80) tag .badValue [] s))

/-- R174, R184: a DOWN link comes UP with its handler IDLE; ATTENTION DONE starts the quiet timer and negates the
line; at 20 us the timer stops, and the clock stands no earlier than that (log entry 7). Nothing else changes. -/
def Obligations.LinkUpAndQuietTimer : Prop :=
  ∀ (s : State) (p : Port),
    ((s.ports.get p).up = false →
      exec (.linkUp p) s =
        .next { s with ports := s.ports.set p { s.ports.get p with up := true, busy := none } })
    ∧ (∀ tag : Nat, accepts s p .attentionDone → ∃ t, exec (.attentionDone p tag) s = .next t
        ∧ t = withReply p 0xA2 tag .ok []
            { s with ports := s.ports.set p { s.ports.get p with quiet := some s.now } }
        ∧ (t.ports.get p).attention = false)
    ∧ ∀ t0 : Nat, (s.ports.get p).quiet = some t0 →
      exec (.quietTimerExpiry p) s =
        .next { s with
          now := max s.now (t0 + 2000)
          ports := s.ports.set p { s.ports.get p with quiet := none } }

/-- R180, R182, R183: SET NOTICE MASK stores bits 0 to 9 and answers the stored mask; the attention line is asserted
when the queue holds a record of an enabled kind and the quiet timer does not run. A notice joins a queue of fewer than
32, and is lost and sets the overrun flag otherwise; FETCH NOTICES takes the oldest eight or fewer, answers the overrun
flag, the number taken, the number left and the records, and clears the flag. -/
def Obligations.NoticesAreMaskedQueuedAndFetched : Prop :=
  (∀ (s : State) (p : Port) (tag mask : Nat), accepts s p .setNoticeMask →
    exec (.setNoticeMask p tag mask) s =
      .next (withReply p 0xA1 tag .ok [BitVec.ofNat 8 (mask % 1024), BitVec.ofNat 8 (mask % 1024 / 256)]
        { s with ports := s.ports.set p { s.ports.get p with mask := BitVec.ofNat 10 mask } }))
  ∧ (∀ r : PortRec, r.attention = true ↔ r.quiet = none ∧ ∃ n ∈ r.notices, r.mask.getLsbD (n.code - 1) = true)
  ∧ (∀ (r : PortRec) (n : Notice),
    (r.notices.length < 32 → r.raise n = { r with notices := r.notices ++ [n] })
    ∧ (32 ≤ r.notices.length → r.raise n = { r with overrun := true }))
  ∧ ∀ (s : State) (p : Port) (tag : Nat), accepts s p .fetchNotices →
    exec (.fetchNotices p tag) s =
      .next (withReply p 0xA0 tag .ok
        (u8 (if (s.ports.get p).overrun then 1 else 0) ++ u8 (min 8 (s.ports.get p).notices.length)
          ++ u8 ((s.ports.get p).notices.length - 8) ++ ((s.ports.get p).notices.take 8).flatMap Notice.bytes)
        { s with ports := s.ports.set p { s.ports.get p with
            notices := (s.ports.get p).notices.drop 8, overrun := false } })

/-- R28, R46, R62, R89, R138, R174, R186, R187: a link that goes DOWN, and PORT RESET, reset the port: its handler is IDLE,
its mask enables all, its quiet timer is stopped, no PUT ROWS of it is in flight and it waits for no measurement. Its
queue keeps the passed items and a PLACING document at the cursor; the documents of the other items are released and every
other document stays. None of its pages is detached, and in a sound store a page that is attached to a document that stays, or
detached and another port's, stays. Its pending mark is gone. Its held flag is cleared when its cursor item is removed. Outside
IDLE, where a sheet may open and raise a notice, its notice queue is empty. The tables and settings of the part are
unchanged. -/
def Obligations.PortResetClearsThePort : Prop :=
  ∀ (s : State) (p : Port) (c : Instr) (q : Queue) (n : Nat),
    (c = .linkDown p ∧ (s.ports.get p).up = true
      ∨ ∃ tag, c = .portReset p tag ∧ accepts s p .portReset) →
    q = s.docs.queues.get p →
    n = q.cursor + (if (match q.items[q.cursor]? with | some (.doc h) => docOf s h | _ => none).any
        (fun d : Doc => d.state == DocState.placing) then 1 else 0) →
    ∃ t, exec c s = .next t
      ∧ (t.ports.get p).busy = none ∧ (t.ports.get p).mask = BitVec.allOnes 10 ∧ (t.ports.get p).quiet = none
      ∧ (t.ports.get p).cls = (s.ports.get p).cls
      ∧ (s.comp.sheet ≠ .idle → (t.ports.get p).notices = [] ∧ (t.ports.get p).overrun = false)
      ∧ (c = .linkDown p → (t.ports.get p).up = false ∧ (t.ports.get p).sent = [])
      ∧ (∀ tag, c = .portReset p tag → (t.ports.get p).up = true
          ∧ lastReply t p = some ⟨0xA4, tag, .ok, u16 (t.store.held.get p) ++ u16 t.store.freeList.length⟩)
      ∧ (∀ w ∈ t.store.writes, w.port ≠ p)
      ∧ Requester.port p ∉ t.beam.waiting ∧ Requester.port p ∉ t.beam.serving
      ∧ t.docs.queues.get p = ⟨q.items.take n, q.cursor⟩
      ∧ (∀ h ∈ itemDocs (q.items.drop n), docOf t h = none)
      ∧ (∀ h ∉ itemDocs (q.items.drop n), docOf t h = docOf s h)
      ∧ (∀ x ∈ t.store.pages, x.2.owner = p → x.2.attached ≠ none)
      ∧ (∀ g pg, StoreSound s → tableGet s.store.pages g = some pg → pg.owner ≠ p ∨ pg.attached ≠ none →
          (∀ h ∈ itemDocs (q.items.drop n), pg.attached ≠ some h) → tableGet t.store.pages g = some pg)
      ∧ t.comp.pendingMarks.get p = false
      ∧ t.comp.heldFlags =
          (if q.cursor < q.items.length ∧ n = q.cursor then s.comp.heldFlags.set p false else s.comp.heldFlags)
      ∧ (∀ q' : Port, q' ≠ p → t.comp.pendingMarks.get q' = s.comp.pendingMarks.get q'
          ∧ t.docs.queues.get q' = s.docs.queues.get q')
      ∧ t.store.quota = s.store.quota ∧ t.comp.cell = s.comp.cell ∧ t.comp.group = s.comp.group
      ∧ t.comp.layouts = s.comp.layouts ∧ t.comp.nextLayout = s.comp.nextLayout ∧ t.comp.marks = s.comp.marks
      ∧ t.comp.pauseLimit = s.comp.pauseLimit ∧ t.comp.completionLimit = s.comp.completionLimit
      ∧ t.comp.ageLimit = s.comp.ageLimit ∧ t.comp.starveClose = s.comp.starveClose
      ∧ t.comp.pointer = s.comp.pointer ∧ t.comp.retakes = s.comp.retakes
      ∧ t.dose = { s.dose with sheet := t.dose.sheet } ∧ t.writer.site = s.writer.site
      ∧ t.beam.floorIndex = s.beam.floorIndex ∧ t.beam.drift = s.beam.drift ∧ t.beam.state = s.beam.state
      ∧ t.film.lot = s.film.lot ∧ t.film.factor = s.film.factor ∧ t.film.film = s.film.film
      ∧ (s.comp.sheet ≠ .idle → t.film.count = s.film.count)
      ∧ t.index.ring = s.index.ring ∧ t.index.template = s.index.template

/-- R45, R85, R133, R165, R166, R179, R185: the five queries answer from the tables and change nothing but the port's
replies. A FEEDER port reads its own documents, pages and frames only. The bodies are given field by field; the codes of
named values, the overrun and other flags and the halt condition NONE, which is an absent value, are those of log entry
21. Serial 0 names the current record, any other the record that carries it, the current one or one of the ring. READ INDEX
of a serial that names none carries the serials of the oldest and the newest record of the ring and of the current record;
otherwise it takes up to 16 of the entries that the port may read, from the starting position on, and names the position
after the last entry examined, or 0 at the end of the list. -/
def Obligations.QueriesChangeNothing : Prop :=
  (∀ (s : State) (p : Port) (tag : Nat),
    (accepts s p .readStatus → exec (.readStatus p tag) s = .next (withReply p 0xA3 tag .ok (statusBody p s) s))
    ∧ (accepts s p .queryDocument → ∀ h : Nat,
        (docOf s h = none → exec (.queryDocument p tag h) s = .next (withReply p 0x8D tag .badHandle [] s))
        ∧ ∀ d, docOf s h = some d →
          ((s.ports.get p).cls = .feeder ∧ d.owner ≠ p →
            exec (.queryDocument p tag h) s = .next (withReply p 0x8D tag .notOwner [] s))
          ∧ ((s.ports.get p).cls = .bureau ∨ d.owner = p →
            exec (.queryDocument p tag h) s = .next (withReply p 0x8D tag .ok (documentBody s h d) s)))
    ∧ (accepts s p .queryPage → ∀ h : Nat,
        (tableGet s.store.pages h = none → exec (.queryPage p tag h) s = .next (withReply p 0x90 tag .badHandle [] s))
        ∧ ∀ pg, tableGet s.store.pages h = some pg →
          ((s.ports.get p).cls = .feeder ∧ pg.owner ≠ p →
            exec (.queryPage p tag h) s = .next (withReply p 0x90 tag .notOwner [] s))
          ∧ ((s.ports.get p).cls = .bureau ∨ pg.owner = p →
            exec (.queryPage p tag h) s = .next (withReply p 0x90 tag .ok (pageBody h pg) s)))
    ∧ (accepts s p .readIndex → ∀ (serial start : Nat) (named : Option SheetRec),
        named = (if serial = 0 ∨ s.index.current.any (fun r => r.serial == serial) then s.index.current
          else s.index.ring.find? fun r => r.serial == serial) →
        (start = 0 → exec (.readIndex p tag serial start) s = .next (withReply p 0x9D tag .badValue [] s))
        ∧ (1 ≤ start → named = none →
            exec (.readIndex p tag serial start) s = .next (withReply p 0x9D tag .badHandle
              ((match s.index.ring.head? with | none => [0#8] | some r => 1#8 :: u32 r.serial)
                ++ (match s.index.ring.getLast? with | none => [0#8] | some r => 1#8 :: u32 r.serial)
                ++ (match s.index.current with | none => [0#8] | some r => 1#8 :: u32 r.serial)) s))
        ∧ ∀ r, 1 ≤ start → named = some r →
            exec (.readIndex p tag serial start) s = .next (withReply p 0x9D tag .ok (indexBody s p r start) s))
    ∧ (accepts s p .readFrame → ∀ (serial n : Nat) (named : Option SheetRec),
        named = (if serial = 0 ∨ s.index.current.any (fun r => r.serial == serial) then s.index.current
          else s.index.ring.find? fun r => r.serial == serial) →
        (named = none → exec (.readFrame p tag serial n) s = .next (withReply p 0x9E tag .badHandle [] s))
        ∧ ∀ r, named = some r →
          (n = 255 → exec (.readFrame p tag serial n) s = .next (withReply p 0x9E tag .ok (titleBody r) s))
          ∧ (n ≠ 255 → r.frames[n]? = none →
              exec (.readFrame p tag serial n) s = .next (withReply p 0x9E tag .badValue [] s))
          ∧ ∀ f, n ≠ 255 → r.frames[n]? = some f →
              ((s.ports.get p).cls = .feeder ∧ (∃ x, f.ref = some x ∧ x.owner ≠ p) →
                exec (.readFrame p tag serial n) s = .next (withReply p 0x9E tag .notOwner [] s))
              ∧ ((s.ports.get p).cls = .bureau ∨ (∀ x, f.ref = some x → x.owner = p) →
                exec (.readFrame p tag serial n) s = .next (withReply p 0x9E tag .ok (frameBody r n f) s))))
  ∧ (∀ (s : State) (p : Port), ∃ free left : Nat,
      statusBody p s = u8 (sheetStateCode s.comp.sheet)
        ++ (match s.comp.halts with | [] => [0#8] | c :: _ => [1#8, BitVec.ofNat 8 (haltCode c)])
        ++ u32 (match s.index.current with | some r => r.serial | none => 0) ++ u32 s.comp.nextSerial
        ++ u8 free ++ u16 left ++ u16 s.film.count ++ u16 s.store.freeList.length ++ u16 (s.store.held.get p)
        ++ u16 (s.store.quota.get p) ++ u8 (s.docs.queues.get p).items.length ++ u8 (beamStateCode s.beam.state)
        ++ u8 (if (s.ports.get p).cls = .bureau then 1 else 0) ++ u8 (s.ports.get p).notices.length
        ++ u8 (if (s.ports.get p).overrun then 1 else 0)
      ∧ (s.comp.sheet = .unloaded ∨ s.comp.sheet = .idle → free = 0 ∧ left = 0)
      ∧ ∀ r, s.comp.sheet ≠ .unloaded → s.comp.sheet ≠ .idle → s.index.current = some r →
          free = r.freeFrames.length ∧ left = 96 * r.layout.index - r.entries.length)
  ∧ (∀ (s : State) (h : Nat) (d : Doc), ∃ place : List Byte,
      documentBody s h d = u16 h ++ u8 (portCode d.owner) ++ u8 d.key.length ++ d.key
        ++ u8 (if d.cls = .keep then 0 else 1) ++ u8 (if d.stream then 1 else 0) ++ u8 (docStateCode d.state)
        ++ u8 d.placed ++ u8 d.pages.length
        ++ d.pages.flatMap (fun x => u16 x.1 ++ u8 (pageOutcomeCode x.2.outcome) ++ u8 x.2.spoils)
        ++ u8 d.sheets.length ++ d.sheets.flatMap (fun x => u32 x.serial) ++ place
      ∧ ((∀ i ∈ (s.docs.queues.get d.owner).items, i ≠ .doc h) → place = [0#8])
      ∧ ∀ i : Nat, (s.docs.queues.get d.owner).items[i]? = some (.doc h) →
          (∀ j < i, (s.docs.queues.get d.owner).items[j]? ≠ some (.doc h)) →
          place = [1#8, BitVec.ofNat 8 i, if i = (s.docs.queues.get d.owner).cursor then 1#8 else 0#8])
  ∧ (∀ (h : Nat) (pg : Page),
      pageBody h pg = u16 h ++ u8 (portCode pg.owner) ++ u16 pg.width ++ u16 pg.height ++ u8 pg.depth ++ u16 pg.dpi
        ++ u8 (rotationCode pg.rotation) ++ u16 pg.rowBytes ++ u16 pg.rowsPerBlock ++ u16 pg.rowMap.length
        ++ u16 pg.received ++ u8 (if pg.state = .receiving then 0 else 1)
        ++ (match pg.attached with | none => [0#8] | some d => 1#8 :: u16 d))
  ∧ (∀ (s : State) (p : Port) (r : SheetRec) (start : Nat) (taken : List (Entry × Nat)), 1 ≤ start →
      taken = (((r.entries.zipIdx 1).drop (start - 1)).filter
        (fun x => (s.ports.get p).cls == .bureau || x.1.owner == p)).take 16 →
      ∃ next : Nat,
      indexBody s p r start = u32 r.serial ++ u8 (sheetStatusCode r.status)
        ++ (match r.reason with | none => [0#8] | some c => [1#8, BitVec.ofNat 8 (closeReasonCode c)])
        ++ u8 r.layoutNo ++ r.lot ++ u8 r.bank ++ u8 (titleStatusCode r.title) ++ u16 r.entries.length
        ++ u32 r.revision ++ u8 taken.length
        ++ taken.flatMap (fun x => u16 x.2 ++ u16 x.1.doc ++ u8 (portCode x.1.owner) ++ u8 x.1.key.length ++ x.1.key
            ++ u8 (entryKindCode x.1.kind) ++ u8 x.1.num ++ u8 x.1.firstPage ++ u8 x.1.pageCount
            ++ u8 x.1.runs.length ++ x.1.runs.flatMap (fun y => u8 y.first ++ u8 y.count)
            ++ (match x.1.spoiled with | none => [0#8] | some y => 1#8 :: (u32 y.1 ++ u8 y.2))
            ++ u8 (entryStatusCode (x.1.status r.frames)))
        ++ u16 next
      ∧ (taken.length < 16 → next = 0)
      ∧ ∀ x, taken.length = 16 → taken.getLast? = some x → next = if x.2 < r.entries.length then x.2 + 1 else 0)
  ∧ (∀ r : Report, reportField r = u16 r.width ++ u16 r.height ++ u8 r.scale ++ u32 r.pitch ++ u32 r.ox ++ u32 r.oy
      ++ u16 r.pStart ++ u16 r.pMin ++ u16 r.pMax ++ u16 r.lines ++ u16 r.saturated
      ++ u8 (if r.isSaturated then 1 else 0) ++ u8 (if r.isDrift then 1 else 0) ++ u8 (if r.isStreamed then 1 else 0)
      ++ (match r.cause with | none => [0#8] | some c => [1#8, BitVec.ofNat 8 (causeCode c)]))
  ∧ (∀ (r : SheetRec) (n : Nat) (f : FrameRec), ∃ entry : List Byte,
      frameBody r n f = u32 r.serial ++ u8 n ++ frameAddress r.layout n ++ u8 (frameKindCode f.kind)
        ++ u8 (frameStateCode f.state)
        ++ (match f.ref with
            | none => [0#8]
            | some x => 1#8 :: (u16 x.page ++ u16 x.doc ++ u8 (portCode x.owner) ++ u8 x.index))
        ++ entry ++ (match f.report with | none => [0#8] | some x => 1#8 :: reportField x)
      ∧ ((∀ e ∈ r.entries, n ∉ e.frames) → entry = [0#8])
      ∧ ∀ (i : Nat) (e : Entry), r.entries[i]? = some e → n ∈ e.frames →
          (∀ j < i, ∀ e', r.entries[j]? = some e' → n ∉ e'.frames) → entry = 1#8 :: u16 (i + 1))
  ∧ ∀ r : SheetRec, titleBody r = u32 r.serial ++ [255#8, BitVec.ofNat 8 (titleStatusCode r.title), 0#8, 0#8]
      ++ (match r.titleReport with | none => [0#8] | some x => 1#8 :: reportField x)

/-! ## Resets (1.14, R1, R9) -/

/-- 1.14, R1, R9: power-on and device reset load every default, read the straps and begin a homing. The cell keeps its
value, or, with a serial write in progress, may hold the new serial; the serials count from the cell. Where the spec
gives no value the model's choices stand (log entries 2, 10, 11 and 26). -/
def Obligations.ResetsLoadTheDefaults : Prop :=
  ∀ (straps : PerPort PortClass) (s : State), ∃ t,
    exec (.powerOn straps) s = .next t ∧ exec (.deviceReset straps) s = .next t
    ∧ (t.comp.cell = s.comp.cell
        ∨ s.comp.write = .writing ∧ ∃ r, s.index.current = some r ∧ t.comp.cell = r.serial)
    ∧ t.comp.greatest = t.comp.cell ∧ t.comp.nextSerial = t.comp.cell + 1
    ∧ t.comp.sheet = .unloaded ∧ t.comp.halts = [] ∧ t.comp.layouts = defaultLayouts ∧ t.comp.nextLayout = 0
    ∧ t.comp.pointer = .a ∧ t.comp.retakes = [] ∧ t.comp.age = none ∧ t.comp.completion = none
    ∧ t.comp.pauseLimit = 10 ∧ t.comp.completionLimit = 300 ∧ t.comp.ageLimit = 1200 ∧ t.comp.starveClose = true
    ∧ (∀ p : Port, (t.ports.get p).cls = straps.get p ∧ (t.ports.get p).up = false ∧ (t.ports.get p).busy = none
        ∧ (t.ports.get p).sent = []
        ∧ (t.ports.get p).notices = [] ∧ (t.ports.get p).overrun = false
        ∧ (t.ports.get p).mask = BitVec.allOnes 10 ∧ (t.ports.get p).quiet = none
        ∧ t.comp.heldFlags.get p = false ∧ t.comp.marks.get p = false ∧ t.comp.pendingMarks.get p = false
        ∧ t.comp.group.get p = false ∧ t.docs.queues.get p = ⟨[], 0⟩ ∧ t.store.held.get p = 0
        ∧ t.store.quota.get p = 512)
    ∧ t.comp.exhausted = false ∧ t.comp.run = none ∧ t.comp.write = .none ∧ t.comp.firstGrant = none
    ∧ t.comp.advanced = false ∧ t.comp.finishDue = false
    ∧ t.docs.table = [] ∧ t.store.pages = [] ∧ t.store.freeList = List.range 2048
    ∧ t.store.blockMap = List.replicate 2048 none ∧ t.store.wait = none ∧ t.store.writes = []
    ∧ t.dose = defaultDose ∧ t.writer = idleWriter .idle
    ∧ t.beam.state = .unknown ∧ t.beam.floorIndex = 10 ∧ t.beam.drift = 13 ∧ t.beam.waiting = []
    ∧ t.beam.inFlight = none ∧ t.beam.serving = [] ∧ t.beam.last = none
    ∧ t.film.film = .empty ∧ t.film.count = 0 ∧ t.film.factor = 1024 ∧ t.film.stage = .homing
    ∧ t.film.motion = some ⟨.homing, s.now⟩ ∧ t.film.queue = [] ∧ t.film.rehome = false ∧ t.film.heldOp = none
    ∧ t.film.lot = List.replicate 8 0x20#8 ∧ t.film.gateDue = false ∧ t.film.clamped = false
    ∧ t.index.rendered = none ∧ t.index.current = none ∧ t.index.ring = [] ∧ t.index.template = []
    ∧ (s.store.writes = [] → t.store.memory = s.store.memory)

/-! ## Sheets (chapter 1) -/

/-- R5: SELECT LAYOUT is accepted in every sheet state; an entry number of 0 to 3 becomes the next-sheet selection and
stands in the reply, one above 3 is refused with BAD_VALUE; the next sheet to enter OPENING uses that entry; the
selection is not in the cell, and power-on and device reset return it to 0. -/
def Obligations.SelectLayoutSetsTheNextSheet : Prop :=
  (∀ (s : State) (p : Port) (tag entry : Nat), accepts s p .selectLayout →
    (entry ≤ 3 → exec (.selectLayout p tag entry) s =
      .next (withReply p 0x81 tag .ok [BitVec.ofNat 8 entry] { s with comp := { s.comp with nextLayout := entry } }))
    ∧ (3 < entry → exec (.selectLayout p tag entry) s = .next (withReply p 0x81 tag .badValue [] s)))
  ∧ (∀ (s : State) (l : Layout), s.comp.layouts[s.comp.nextLayout]? = some l →
    ∃ r, (enterOpening s).index.current = some r ∧ r.layoutNo = s.comp.nextLayout ∧ r.layout = l)
  ∧ ∀ (straps : PerPort PortClass) (s : State), ∃ t,
    exec (.powerOn straps) s = .next t ∧ exec (.deviceReset straps) s = .next t ∧ t.comp.nextLayout = 0

/-- R6: SET LAYOUT is accepted in every sheet state and replaces all fields of an entry at once, if every field is
within its range of R4; the reply carries the data-frame count and the index capacity. Any failed check, and an entry
above 3, is BAD_VALUE and changes no entry. The sheet in the stage keeps its latched copy. -/
def Obligations.SetLayoutReplacesAnEntry : Prop :=
  ∀ (s : State) (p : Port) (tag entry rows cols index red w h code : Nat), accepts s p .setLayout →
    (∀ im, imprintOfCode code = some im → entry ≤ 3 →
      Layout.inRange ⟨rows, cols, index, red, w, h, im⟩ →
      exec (.setLayout p tag entry rows cols index red w h code) s =
        .next (withReply p 0x82 tag .ok
          [BitVec.ofNat 8 (rows * cols - index), BitVec.ofNat 8 (96 * index), BitVec.ofNat 8 (96 * index / 256)]
          { s with comp := { s.comp with layouts := s.comp.layouts.set entry ⟨rows, cols, index, red, w, h, im⟩ } }))
    ∧ ((3 < entry ∨ imprintOfCode code = none
          ∨ ∃ im, imprintOfCode code = some im ∧ ¬ Layout.inRange ⟨rows, cols, index, red, w, h, im⟩) →
      exec (.setLayout p tag entry rows cols index red w h code) s = .next (withReply p 0x82 tag .badValue [] s))

/-- R11: SET SERIAL is accepted in every sheet state for a value above the greatest serial taken and not above
99,999,999; the value becomes the next serial and stands in the reply. Any other value is BAD_VALUE with the greatest
serial taken. That number includes the serial of a sheet in OPENING; once the last issued serial is 99,999,999 every
value is refused. -/
def Obligations.SetSerialRaisesTheNextSerial : Prop :=
  (∀ (s : State) (p : Port) (tag value : Nat), accepts s p .setSerial →
    (s.comp.greatest < value → value ≤ 99999999 → exec (.setSerial p tag value) s =
      .next (withReply p 0x89 tag .ok (u32 value) { s with comp := { s.comp with nextSerial := value } }))
    ∧ (value ≤ s.comp.greatest ∨ 99999999 < value →
      exec (.setSerial p tag value) s = .next (withReply p 0x89 tag .badValue (u32 s.comp.greatest) s))
    ∧ (SerialsRise s → s.comp.cell = 99999999 →
      exec (.setSerial p tag value) s = .next (withReply p 0x89 tag .badValue (u32 s.comp.greatest) s)))
  ∧ (∀ s : State, ∃ r, (enterOpening s).index.current = some r ∧ (enterOpening s).comp.greatest = r.serial)
  ∧ ∀ (s : State) (r : SheetRec), SerialsRise s → s.index.current = some r → s.comp.greatest = r.serial

/-- R12, R17: SET CLOSE GROUP replaces the close group and answers it; a set with a bit above 3 names no port and is
BAD_VALUE. In OPEN the close conditions are tested: a group that the mark set covers, on a sheet that holds a grant and
is not full, closes it with reason BARRIER at once. -/
def Obligations.SetCloseGroupReplacesTheGroup : Prop :=
  ∀ (s : State) (p : Port) (tag ports : Nat), accepts s p .setCloseGroup →
    (16 ≤ ports → exec (.setCloseGroup p tag ports) s = .next (withReply p 0x88 tag .badValue [] s))
    ∧ (ports < 16 → ∃ t, exec (.setCloseGroup p tag ports) s = .next t
      ∧ SettledFrom (withReply p 0x88 tag .ok [BitVec.ofNat 8 ports]
          { s with comp := { s.comp with
            group := ⟨ports.testBit 0, ports.testBit 1, ports.testBit 2, ports.testBit 3⟩ } }) t
      ∧ ∀ r, s.index.current = some r → s.comp.sheet = .open → r.freeFrames ≠ [] →
          r.entries.length < 96 * r.layout.index → s.comp.firstGrant ≠ none → 0 < ports →
          (∀ q : Port, t.comp.group.get q = true → s.comp.marks.get q = true) →
          ∃ r', t.index.current = some r' ∧ r'.reason = some .barrier ∧ r'.status = .closed)

/-- R14, R18, R20, R179: SET LIMITS replaces all four settings, each clamped to its range (an age limit of 0 stays 0), and
answers the stored values. The new limits act on the timers: where no timer of the sheet is concerned nothing else changes
but by the tests that follow. On an OPEN sheet that holds a placement an age limit of 0 stops the age timer; any other runs
it from the first placement, and a limit already reached closes the sheet with reason AGE (FULL where the sheet is full).
A completion limit not yet reached leaves the timer running; one already reached expires it: every frame still PLACED
is VOID and the documents that own one are INCOMPLETE (or released).
A sheet whose placements have all been cancelled counts as holding one (log entry 40). That the timers act before the close
conditions are tested, so that an age limit already reached gives AGE also where the request makes STARVED true, is log
entry 42. In the reply starve-close ON is 0 and OFF is 1 (log entry 21). -/
def Obligations.SetLimitsStoresClampedLimits : Prop :=
  ∀ (s : State) (p : Port) (tag pause completion age : Nat) (starve : Bool), accepts s p .setLimits →
    ∀ (l c a : Nat) (body : List Byte) (set : State), l = max 1 (min 60 pause) → c = max 10 (min 3600 completion) →
    (a = if age = 0 then 0 else max 30 (min 14400 age)) →
    body = u8 l ++ u16 c ++ u16 a ++ u8 (if starve then 0 else 1) →
    set = withReply p 0x87 tag .ok body
      { s with comp := { s.comp with pauseLimit := l, completionLimit := c, ageLimit := a, starveClose := starve } } →
    ∃ t, exec (.setLimits p tag pause completion age starve) s = .next t
      ∧ t.comp.pauseLimit = l ∧ t.comp.completionLimit = c ∧ t.comp.ageLimit = a ∧ t.comp.starveClose = starve
      ∧ lastReply t p = some ⟨0x87, tag, .ok, body⟩
      ∧ (s.comp.completion = none → (s.comp.sheet ≠ .open ∨ s.comp.firstGrant = none) → SettledFrom set t)
      ∧ (∀ g, s.comp.completion = none → s.comp.sheet = .open → s.comp.firstGrant = some g →
          (a = 0 → SettledFrom { set with comp := { set.comp with age := none } } t
            ∧ (t.comp.sheet = .open → t.comp.age = none))
          ∧ (a ≠ 0 → s.now < g + a * 100000000 →
            SettledFrom { set with comp := { set.comp with age := some g } } t
            ∧ (t.comp.sheet = .open → t.comp.age = some g))
          ∧ ∀ r, a ≠ 0 → g + a * 100000000 ≤ s.now → s.index.current = some r →
            ∃ r', t.index.current = some r' ∧ r'.status = .closed
              ∧ (r.freeFrames ≠ [] → r.entries.length < 96 * r.layout.index →
                  r'.reason = some .age ∧ SettledFrom (closedFor .age set) t)
              ∧ (r.freeFrames = [] ∨ 96 * r.layout.index ≤ r.entries.length →
                  r'.reason = some .full ∧ SettledFrom (closedFor .full set) t))
      ∧ ∀ t0, s.comp.completion = some t0 → s.comp.sheet = .closing →
          (s.now < t0 + c * 100000000 → SettledFrom set t
            ∧ ((∃ f ∈ currentFrames s, f.state = .placed ∧ ∃ x pg, f.ref = some x
                  ∧ tableGet s.store.pages x.page = some pg ∧ pg.state = .receiving) → t.comp.completion = some t0))
          ∧ ∀ r, t0 + c * 100000000 ≤ s.now → s.index.current = some r → ∃ r', t.index.current = some r'
            ∧ r'.serial = r.serial ∧ t.comp.completion = none ∧ t.now = s.now
            ∧ (∀ (n : Nat) (f : FrameRec), r.frames[n]? = some f → f.kind ≠ .index →
                r'.frames[n]? = some (if f.state = .placed then { f with state := .void } else f))
            ∧ (∀ f ∈ r.frames, f.state = .placed → ∀ x, f.ref = some x →
                docOf t x.doc = none ∨ ∃ d, docOf t x.doc = some d ∧ d.state = .incomplete)

/-- R13, R15: CLOSE SHEET closes the OPEN sheet with reason FORCED; a sheet with no frame waiting or in progress and no
retake waiting passes to INDEXING at once. In UNLOADED it is NO_FILM, in the other states WRONG_STATE. -/
def Obligations.CloseSheetClosesTheOpenSheet : Prop :=
  ∀ (s : State) (p : Port) (tag : Nat), accepts s p .closeSheet →
    (s.comp.sheet = .open → ∃ t, exec (.closeSheet p tag) s = .next t
      ∧ SettledFrom (withReply p 0x83 tag .ok [] (closedFor .forced s)) t
      ∧ ∀ r, s.index.current = some r →
          (∃ r', t.index.current = some r' ∧ r'.reason = some .forced ∧ r'.status = .closed)
          ∧ ((∀ f ∈ r.frames, f.state ≠ .placed ∧ f.state ≠ .ready ∧ f.state ≠ .exposing ∧ f.state ≠ .paused) →
              s.comp.retakes = [] → t.comp.sheet = .indexing))
    ∧ (s.comp.sheet = .unloaded → exec (.closeSheet p tag) s = .next (withReply p 0x83 tag .noFilm [] s))
    ∧ (s.comp.sheet ≠ .open → s.comp.sheet ≠ .unloaded →
        exec (.closeSheet p tag) s = .next (withReply p 0x83 tag .wrongState [] s))

/-- R21, R22, R116, R179: HALT adds MANUAL to the end of the halt list, unless it stands there; HALTED goes to every port,
an IDLE Writer is HELD, and the reply carries the halt condition. That it is sent as a value that may be absent, so that
the byte 1 stands before its code, is a reading of R179 (log entry 21). -/
def Obligations.HaltJoinsManual : Prop :=
  ∀ (s : State) (p : Port) (tag : Nat) (c : HaltCause), accepts s p .halt →
    (HaltCause.manual ∈ s.comp.halts → s.comp.halts.head? = some c →
      exec (.halt p tag) s = .next (withReply p 0x84 tag .ok [1#8, BitVec.ofNat 8 (haltCode c)] s))
    ∧ (HaltCause.manual ∉ s.comp.halts → (s.comp.halts ++ [HaltCause.manual]).head? = some c →
      exec (.halt p tag) s =
        .next (withReply p 0x84 tag .ok [1#8, BitVec.ofNat 8 (haltCode c)]
          { s with
            comp := { s.comp with halts := s.comp.halts ++ [.manual] }
            ports := s.ports.map (PortRec.raise (.halted .manual))
            writer := { s.writer with mode := if s.writer.mode = .idle then .held else s.writer.mode } }))

/-- R23, R158: RESUME acts on the head of the halt list. Empty: WRONG_STATE. MANUAL, STAGE, TRANSPORT: the cause is
removed (the latter two set the re-home flag), with RESUMED when the list becomes empty. BEAM: a measurement is asked
for and the port stays BUSY. SERIAL: a FAILED write is repeated and the port stays BUSY; where the write has verified
(log entry 20), and with no write made, as after exhaustion (R10), the cause is removed. -/
def Obligations.ResumeActsOnTheHead : Prop :=
  ∀ (s : State) (p : Port) (tag : Nat), accepts s p .resume →
    (s.comp.halts = [] → exec (.resume p tag) s = .next (withReply p 0x85 tag .wrongState [] s))
    ∧ (∀ c, s.comp.halts.head? = some c →
        c = .manual ∨ c = .stage ∨ c = .transport
          ∨ (c = .serial ∧ (s.comp.write = .verified ∨ s.comp.write = .none)) →
        ∃ t, exec (.resume p tag) s = .next t
          ∧ SettledFrom (withReply p 0x85 tag .ok [] (withoutCause c
              { s with film := { s.film with rehome := s.film.rehome || c == .stage || c == .transport } })) t)
    ∧ (s.comp.halts.head? = some .beam → ∃ t, exec (.resume p tag) s = .next t
        ∧ t = withBusy p (.resumeBeam tag) { s with beam := { s.beam with
            waiting := t.beam.waiting, inFlight := t.beam.inFlight, serving := t.beam.serving } }
        ∧ (Requester.port p ∈ t.beam.waiting ∨ Requester.port p ∈ t.beam.serving ∧ t.beam.inFlight ≠ none))
    ∧ (s.comp.halts.head? = some .serial → s.comp.write = .failed →
        exec (.resume p tag) s =
          .next (withBusy p (.resumeSerial tag) { s with comp := { s.comp with write := .writing } }))
    ∧ (s.comp.halts.head? = some .serial → s.comp.write = .writing →
        exec (.resume p tag) s = .next (withBusy p (.resumeSerial tag) s))

/-- R8, R16, R24 to R26, R36, R56, R131: ABORT SHEET in OPENING, OPEN, CLOSING and INDEXING: the sheet state is FINISHING,
the timers and the run stop, the record is ABORTED with every entry VOID and every PLACED and READY frame VOID. Past OPENING
the frame in progress is SPOILED with cause ABORT, which FRAME_SPOILED tells its owner, and what the sheet did is undone:
on each page the spoils with other causes are taken back, a page that they made LOST or that a frame EXPOSED returns to
NONE; a document that is not final loses the pages of its NORMAL entry and is QUEUED or PLACING; every sheet list loses the
serial; retakes of spoils on the sheet are gone, and those that its RETAKE entries served and whose spoil lies on an earlier
sheet return at the head of the list in entry order; each cursor moves back to the earliest document of the sheet, its
port leaving the pending mark set, and the other ports of the mark set join it. Elsewhere the request is refused. How the
finishing advance of an abort in OPENING waits is log entry 38. That the spoils are taken back on the pages of final
documents too, and that a cursor which stands at or before the earliest of these documents does not move, so that its
port's mark joins the pending set, are readings of R26 (log entry 16). What becomes of the pages' spoil counts and outcomes
is said where a frame in progress has its report open, as it has in every run. -/
def Obligations.AbortSheetEndsTheSheet : Prop :=
  ∀ (s : State) (p : Port) (tag : Nat), accepts s p .abortSheet →
    (∀ r, s.index.current = some r →
        s.comp.sheet = .opening ∨ s.comp.sheet = .open ∨ s.comp.sheet = .closing ∨ s.comp.sheet = .indexing →
        ∃ t r', exec (.abortSheet p tag) s = .next t ∧ lastReply t p = some ⟨0x86, tag, .ok, []⟩
          ∧ t.comp.sheet = .finishing ∧ t.comp.age = none ∧ t.comp.completion = none ∧ t.comp.run = none
          ∧ t.comp.halts = s.comp.halts ∧ t.comp.cell = s.comp.cell ∧ t.comp.nextSerial = s.comp.nextSerial
          ∧ t.index.current = some r' ∧ r'.serial = r.serial ∧ r'.status = .aborted
          ∧ r'.entries = r.entries.map (fun e => { e with mark := some .void })
          ∧ (∀ f ∈ r'.frames, f.state ≠ .placed ∧ f.state ≠ .ready)
          ∧ (∀ (n : Nat) (f : FrameRec), s.writer.site ≠ some (.frame n) → r.frames[n]? = some f →
              r'.frames[n]? = some (if f.state = .placed ∨ f.state = .ready then { f with state := .void } else f))
          ∧ t.index.ring = s.index.ring ∧ t.store.pages = s.store.pages ∧ t.store.memory = s.store.memory
          ∧ (s.comp.sheet = .opening →
              t.docs = s.docs ∧ Operation.opening ∉ t.film.queue
              ∧ (s.comp.write ≠ .verified → t.comp.finishDue = true)
              ∧ (s.comp.write = .verified →
                  motionOp t = some .finishing ∨ Operation.finishing ∈ t.film.queue))
          ∧ (s.comp.sheet ≠ .opening → t.writer.site = none ∧ t.comp.marks = everyPort false
              ∧ (motionOp t = some .finishing ∨ Operation.finishing ∈ t.film.queue)
              ∧ (∀ (n : Nat) (f : FrameRec) (rep : Report), s.writer.site = some (.frame n) → r.frames[n]? = some f →
                  s.writer.report = some rep →
                  r'.frames[n]? = some { f with
                    state := .spoiled
                    report := some { rep with isSaturated := decide (0 < rep.saturated), cause := some .abort } }
                  ∧ ∀ q : Port, (t.ports.get q).notices =
                      if f.ref.any (fun x => x.owner == q) then
                        ((s.ports.get q).raise (.frameSpoiled r.serial n ((f.ref.map (·.doc)).getD 0)
                          ((f.ref.map (·.index)).getD 0) .abort .neither)).notices
                      else (s.ports.get q).notices)
              ∧ (∀ h d, docOf s h = some d → ∃ d', docOf t h = some d'
                  ∧ d' = { d with
                      sheets := d.sheets.filter (·.serial != r.serial)
                      placed := d'.placed, state := d'.state, pages := d'.pages }
                  ∧ (d.state.isFinal = true ∨ (∀ e ∈ r.entries, e.doc = h → e.kind ≠ .normal) →
                      d'.placed = d.placed ∧ d'.state = d.state)
                  ∧ (∀ e, d.state.isFinal = false →
                      r.entries.filter (fun e => e.doc == h && e.kind == .normal) = [e] →
                      d'.placed = d.placed - e.pageCount
                      ∧ d'.state = if d.placed - e.pageCount = 0 then .queued else .placing)
                  ∧ d'.pages.map (·.1) = d.pages.map (·.1)
                  ∧ ∀ (i spoils : Nat) (x : Nat × PageMark) (own : List FrameRec), d.pages[i]? = some x →
                      ReportOpen s →
                      (∀ n f, s.writer.site = some (.frame n) → r.frames[n]? = some f → f.state.inProgress = true) →
                      own = r.frames.filter (fun f => f.ref.any fun y => y.doc == h && y.index - 1 == i) →
                      spoils = own.countP (fun f => f.state == .spoiled && f.report.bind (·.cause) != some .abort) →
                      ∃ x', d'.pages[i]? = some x' ∧ x'.2.spoils = x.2.spoils - spoils
                        ∧ x'.2.outcome =
                          if own.any (fun f => f.state == .exposed)
                            ∨ 1 ≤ spoils ∧ x.2.outcome = .lost ∧ 3 ≤ x.2.spoils then .none else x.2.outcome)
              ∧ t.comp.retakes = r.entries.filterMap (fun e =>
                    match e.spoiled, docOf s e.doc with
                    | some (serial, frame), some d =>
                      if e.kind = .retake ∧ serial ≠ r.serial ∧ d.state.isFinal = false then
                        (d.pages[e.firstPage - 1]?).map fun x =>
                          ⟨x.1, e.doc, e.owner, e.firstPage, e.num, serial, frame⟩
                      else none
                    | _, _ => none)
                  ++ s.comp.retakes.filter (·.serial != r.serial)
              ∧ ∀ (q : Port) (back : Nat → Prop),
                  (∀ i, back i ↔ i < (s.docs.queues.get q).cursor
                    ∧ ∃ h d, (s.docs.queues.get q).items[i]? = some (.doc h) ∧ docOf s h = some d
                      ∧ d.state.isFinal = false ∧ ∃ e ∈ r.entries, e.doc = h ∧ e.kind = .normal) →
                  ((∀ i, ¬ back i) → t.docs.queues.get q = s.docs.queues.get q
                    ∧ t.comp.pendingMarks.get q = (s.comp.pendingMarks.get q || s.comp.marks.get q))
                  ∧ ∀ i, back i → (∀ j < i, ¬ back j) → (s.docs.queues.get q).items.head? ≠ some .mark →
                    t.docs.queues.get q = Queue.mk (s.docs.queues.get q).items i
                    ∧ t.comp.pendingMarks.get q = false))
    ∧ (s.comp.sheet = .finishing → exec (.abortSheet p tag) s = .next (withReply p 0x86 tag .tooLate [] s))
    ∧ (s.comp.sheet = .idle → exec (.abortSheet p tag) s = .next (withReply p 0x86 tag .wrongState [] s))
    ∧ (s.comp.sheet = .unloaded → exec (.abortSheet p tag) s = .next (withReply p 0x86 tag .noFilm [] s))

/-- R14, R18, R32, R164: the age timer of an OPEN sheet closes it with reason AGE, or FULL where a grant has made the sheet
full. The completion timer of a CLOSING sheet stops, each frame still PLACED becomes VOID, and each document that owns one
is INCOMPLETE (or released), which DOC_FINAL tells its owner; its NORMAL entry is INCOMPLETE, unless the entry carries a
mark (a reading of R18 and R164, log entry 17), and it has no retake left. The clock stands no earlier than the limit (log entry 7). -/
def Obligations.SheetTimersExpire : Prop :=
  ∀ (s : State) (t0 : Nat) (r : SheetRec), s.index.current = some r →
    (∀ now : Nat, s.comp.age = some t0 → s.comp.sheet = .open →
      now = max s.now (t0 + s.comp.ageLimit * 100000000) →
      ∃ t r', exec .ageTimerExpiry s = .next t ∧ t.now = now
        ∧ t.index.current = some r' ∧ r'.serial = r.serial ∧ r'.status = .closed ∧ t.comp.age = none
        ∧ (r.freeFrames ≠ [] → r.entries.length < 96 * r.layout.index →
            r'.reason = some .age ∧ SettledFrom (closedFor .age { s with now := now }) t)
        ∧ (r.freeFrames = [] ∨ 96 * r.layout.index ≤ r.entries.length →
            r'.reason = some .full ∧ SettledFrom (closedFor .full { s with now := now }) t))
    ∧ (s.comp.completion = some t0 → s.comp.sheet = .closing →
      ∃ t r', exec .completionTimerExpiry s = .next t
        ∧ t.now = max s.now (t0 + s.comp.completionLimit * 100000000)
        ∧ t.comp.completion = none ∧ (t.comp.sheet = .closing ∨ t.comp.sheet = .indexing)
        ∧ t.index.current = some r' ∧ r'.serial = r.serial
        ∧ (∀ (n : Nat) (f : FrameRec), r.frames[n]? = some f → f.kind ≠ .index →
            r'.frames[n]? = some (if f.state = .placed then { f with state := .void } else f))
        ∧ (∀ f ∈ r.frames, f.state = .placed → ∀ x, f.ref = some x →
            docOf t x.doc = none ∨ ∃ d, docOf t x.doc = some d ∧ d.state = .incomplete)
        ∧ (∀ h, (∀ f ∈ r.frames, f.state = .placed → ∀ x, f.ref = some x → x.doc ≠ h) → docOf t h = docOf s h)
        ∧ r'.entries = r.entries.map (fun e =>
            if e.kind = .normal ∧ e.mark = none
              ∧ r.frames.any (fun f => f.state == .placed && f.ref.any fun x => x.doc == e.doc) then
              { e with mark := some .incomplete }
            else e)
        ∧ (∀ x ∈ t.comp.retakes, x ∈ s.comp.retakes ∧ (docOf s x.doc = none
            ∨ ∀ f ∈ r.frames, f.state = .placed → ∀ y, f.ref = some y → y.doc ≠ x.doc))
        ∧ (∀ h d, s.store.writes = [] → docOf s h = some d →
            (∀ f ∈ r.frames, f.state = .placed → ∀ x, f.ref = some x → x.doc = h) →
            (∃ f ∈ r.frames, f.state = .placed ∧ ∃ x, f.ref = some x) →
            t.ports = s.ports.set d.owner ((s.ports.get d.owner).raise (.docFinal h .incomplete none
              (d.pages.countP (·.2.outcome == .exposed)) (d.pages.countP (·.2.outcome == .lost)))))
        ∧ t.comp.cell = s.comp.cell ∧ t.comp.halts = s.comp.halts ∧ t.writer.site = s.writer.site
        ∧ t.dose = s.dose ∧ t.index.ring = s.index.ring)

/-- R3, R10, R16, R21, R23, R25: a serial write that verifies stores the sheet's serial in the cell. Where RESUMEs wait for it
SERIAL leaves the halt list, with RESUMED when the list becomes empty, and each is answered OK. If the opening advance has
completed the sheet is OPEN: the pending mark set is its mark set, no port is held, SHEET_OPENED with the serial and the
layout number goes to every port, and the arbiter runs; otherwise the sheet stays in OPENING. For a sheet aborted in OPENING
the finishing advance is asked for (log entry 38). A write that fails leaves the cell (log entry 20), puts SERIAL in the halt
list, with HALTED to every port unless it stands there, and answers WRONG_STATE to the RESUMEs that wait; the sheet and the
transport stay as they are. RESUMED before SHEET_OPENED is log entry 39. -/
def Obligations.SerialWriteEnds : Prop :=
  ∀ (s : State) (r : SheetRec), s.comp.write = .writing → s.index.current = some r →
    (s.comp.sheet = .opening → ∃ t, exec (.serialWriteComplete true) s = .next t
      ∧ t.comp.write = .verified ∧ t.comp.cell = r.serial ∧ t.index.current = some r
      ∧ (s.comp.advanced = false → t.comp.sheet = .opening ∧ t.comp.marks = s.comp.marks
          ∧ t.ports = (writtenSerial r.serial s).ports
          ∧ (s.comp.finishDue = false → SettledFrom (writtenSerial r.serial s) t))
      ∧ (s.comp.advanced = true → t.comp.sheet = .open ∧ t.comp.marks = s.comp.pendingMarks
          ∧ t.comp.pendingMarks = everyPort false ∧ t.comp.heldFlags = everyPort false
          ∧ t.comp.run ≠ none ∧ t.comp.age = s.comp.age
          ∧ t.ports = (writtenSerial r.serial s).ports.map (PortRec.raise (.sheetOpened r.serial r.layoutNo))
          ∧ (s.comp.finishDue = false → SettledFrom (openedSheet r (writtenSerial r.serial s)) t))
      ∧ t.docs = s.docs ∧ t.store = s.store ∧ t.dose = s.dose ∧ t.index.ring = s.index.ring
      ∧ ∀ p tag, (s.ports.get p).busy = some (.resumeSerial tag) →
          (t.ports.get p).busy = none ∧ lastReply t p = some ⟨0x85, tag, .ok, []⟩ ∧ HaltCause.serial ∉ t.comp.halts)
    ∧ (s.comp.sheet = .finishing → s.comp.finishDue = true → ∃ t, exec (.serialWriteComplete true) s = .next t
      ∧ t.comp.write = .verified ∧ t.comp.cell = r.serial ∧ t.comp.sheet = .finishing ∧ t.comp.finishDue = false
      ∧ (motionOp t = some .finishing ∨ Operation.finishing ∈ t.film.queue)
      ∧ t.index = s.index ∧ t.docs = s.docs ∧ t.store = s.store
      ∧ SettledFrom { writtenSerial r.serial s with
          comp := { (writtenSerial r.serial s).comp with finishDue := false }
          film := { s.film with queue := s.film.queue ++ [.finishing] } } t)
    ∧ ∃ t halted, exec (.serialWriteComplete false) s = .next t
      ∧ t.comp.write = .failed ∧ t.comp.cell = s.comp.cell ∧ HaltCause.serial ∈ t.comp.halts
      ∧ halted = withCause .serial { s with comp := { s.comp with write := .failed } }
      ∧ t = { halted with ports := halted.ports.map (PortRec.writeAnswered .wrongState) }
      ∧ ∀ p tag, (s.ports.get p).busy = some (.resumeSerial tag) →
          (t.ports.get p).busy = none ∧ lastReply t p = some ⟨0x85, tag, .wrongState, []⟩

/-- R3, R152, R153: the opening advance completes: the gate holds the sheet; the sheet stays in OPENING until its serial
write has verified, and otherwise opens with the pending mark set as its mark set and no port held. The advance of a sheet
that was aborted changes no sheet state; a finishing advance and cut that waits at the head of the queue, with no halt
and nothing to recover, begins. -/
def Obligations.OpeningAdvanceCompletes : Prop :=
  ∀ s : State, motionOp s = some .opening →
    (s.comp.sheet = .opening → s.comp.write ≠ .verified → ∃ t, exec .openingAdvanceComplete s = .next t
      ∧ SettledFrom { s with
          film := { s.film with
            motion := none, heldOp := if s.film.heldOp = some .opening then none else s.film.heldOp
            gateDue := true, clamped := true }
          comp := { s.comp with advanced := true } } t)
    ∧ (∀ r, s.comp.sheet = .opening → s.comp.write = .verified → s.index.current = some r →
      ∃ t, exec .openingAdvanceComplete s = .next t
        ∧ SettledFrom { s with
            film := { s.film with
              motion := none, heldOp := if s.film.heldOp = some .opening then none else s.film.heldOp
              gateDue := true, clamped := true }
            comp := { s.comp with
              advanced := true, sheet := .open, marks := s.comp.pendingMarks, pendingMarks := everyPort false
              heldFlags := everyPort false }
            ports := s.ports.map (PortRec.raise (.sheetOpened r.serial r.layoutNo)) } t)
    ∧ (s.comp.sheet = .finishing → ∃ t, exec .openingAdvanceComplete s = .next t
      ∧ SettledFrom { s with
          film := { s.film with
            motion := none, heldOp := if s.film.heldOp = some .opening then none else s.film.heldOp
            gateDue := true, clamped := true }
          comp := { s.comp with advanced := true } } t
      ∧ t.comp.sheet = .finishing
      ∧ (s.film.queue = [.finishing] → s.comp.halts = [] → s.film.rehome = false →
          s.film.heldOp = none ∨ s.film.heldOp = some .opening →
          t.film.motion = some ⟨.finishing, s.now⟩ ∧ t.film.queue = [] ∧ t.film.gateDue = false))

/-- R27, R28, R32, R151, R153, R160, R181: the finishing cut completes: the record joins the ring of 64, FINISHED unless it
is ABORTED; every document of a FINISHED sheet that is PLACED, has an outcome for every page and no retake is DONE, or
DAMAGED with a LOST page, which DOC_FINAL tells its owner, and is released; SHEET_FINISHED goes to every port; the sheet
state is UNLOADED when the film has run out, and otherwise IDLE, from which the next sheet may open at once. A notice
queue is here one with room for the notices of the event. The block memory is unchanged when no rows are being written to
a page that is attached (log entry 3 tells of the others). -/
def Obligations.FinishingCutFinishesTheSheet : Prop :=
  ∀ (s : State) (r : SheetRec), motionOp s = some .finishing → s.comp.sheet = .finishing →
    s.index.current = some r →
    ∃ t, exec .finishingCutComplete s = .next t
      ∧ t.index.ring = (if 64 ≤ s.index.ring.length then s.index.ring.drop 1 else s.index.ring)
          ++ [if r.status = .aborted then r else { r with status := .finished }]
      ∧ (s.film.count = 0 → t.comp.sheet = .unloaded ∧ t.film.film = .empty ∧ t.index.current = none)
      ∧ (s.film.count ≠ 0 → t.comp.sheet = .idle ∧ t.index.current = none ∨ t.comp.sheet = .opening)
      ∧ (r.status ≠ .aborted → ∀ h d, docOf s h = some d → d.state = .placed →
          (∀ x ∈ s.comp.retakes, x.doc ≠ h) →
          (∀ x ∈ d.pages, x.2.outcome = .exposed ∨ x.2.outcome = .lost) → docOf t h = none
          ∧ ((s.ports.get d.owner).notices.length + s.docs.table.length ≤ 32 →
            Notice.docFinal h (if d.pages.any (fun x => x.2.outcome == .lost) then .damaged else .done) none
              (d.pages.countP (·.2.outcome == .exposed)) (d.pages.countP (·.2.outcome == .lost))
              ∈ (t.ports.get d.owner).notices))
      ∧ (∀ h d, docOf s h = some d → d.state.isFinal = false →
          (d.state ≠ .placed ∨ r.status = .aborted ∨ (∃ x ∈ d.pages, x.2.outcome = .none)
            ∨ ∃ x ∈ s.comp.retakes, x.doc = h) → docOf t h = some d)
      ∧ (∀ q : Port, (s.ports.get q).notices.length + s.docs.table.length < 32 →
          Notice.sheetFinished r.serial (decide (r.status = .aborted)) ∈ (t.ports.get q).notices)
      ∧ t.comp.cell = s.comp.cell ∧ t.comp.layouts = s.comp.layouts ∧ t.store.quota = s.store.quota
      ∧ t.index.template = s.index.template
      ∧ ((∀ w ∈ s.store.writes, ∀ pg, tableGet s.store.pages w.page = some pg → pg.attached = none) →
          t.store.memory = s.store.memory)

/-! ## Documents and port queues (chapter 2) -/

/-- R28, R33, R37 to R39: SUBMIT DOCUMENT makes its checks in their order and refuses at the first that fails. Accepted,
it creates the record at the lowest free handle, attaches its pages, and puts its item at the end of the port's queue;
the reply carries the handle and the item count. -/
def Obligations.SubmitDocumentCreatesTheDocument : Prop :=
  ∀ (s : State) (p : Port) (tag : Nat) (key : Text) (cls count : Nat) (stream : Bool) (pages : List Nat),
    accepts s p .submitDocument →
    (¬ (1 ≤ count ∧ count ≤ 64 ∧ count = pages.length ∧ 1 ≤ key.length ∧ key.length ≤ 24 ∧ cls ≤ 1) →
      exec (.submitDocument p tag key cls stream count pages) s = .next (withReply p 0x8A tag .badValue [] s))
    ∧ (1 ≤ count → count ≤ 64 → count = pages.length → 1 ≤ key.length → key.length ≤ 24 → cls ≤ 1 →
      ((∃ h ∈ pages, tableGet s.store.pages h = none) →
        exec (.submitDocument p tag key cls stream count pages) s = .next (withReply p 0x8A tag .badHandle [] s))
      ∧ ((∀ h ∈ pages, tableGet s.store.pages h ≠ none) →
        ((∃ h ∈ pages, ∃ pg, tableGet s.store.pages h = some pg ∧ pg.owner ≠ p) →
          exec (.submitDocument p tag key cls stream count pages) s = .next (withReply p 0x8A tag .notOwner [] s))
        ∧ ((∀ h ∈ pages, ∀ pg, tableGet s.store.pages h = some pg → pg.owner = p) →
          (¬ pages.Nodup ∨ (∃ h ∈ pages, ∃ pg, tableGet s.store.pages h = some pg ∧ pg.attached ≠ none) →
            exec (.submitDocument p tag key cls stream count pages) s = .next (withReply p 0x8A tag .inUse [] s))
          ∧ (pages.Nodup → (∀ h ∈ pages, ∀ pg, tableGet s.store.pages h = some pg → pg.attached = none) →
            (128 ≤ (s.docs.queues.get p).items.length →
              exec (.submitDocument p tag key cls stream count pages) s =
                .next (withReply p 0x8A tag .queueFull [] s))
            ∧ ((s.docs.queues.get p).items.length < 128 →
              ((∀ h < 512, docOf s h ≠ none) →
                exec (.submitDocument p tag key cls stream count pages) s =
                  .next (withReply p 0x8A tag .tableFull [] s))
              ∧ ∀ h < 512, docOf s h = none → (∀ g < h, docOf s g ≠ none) →
                ∃ t, exec (.submitDocument p tag key cls stream count pages) s = .next t
                  ∧ SettledFrom (withReply p 0x8A tag .ok
                      (u16 h ++ u8 ((s.docs.queues.get p).items.length + 1))
                      { s with
                        docs :=
                          { table := tablePut s.docs.table h
                              { owner := p
                                key := key.map fun b => if 0x20 ≤ b.toNat ∧ b.toNat ≤ 0x7E then b else 0x3F#8
                                cls := if cls = 0 then .keep else .flow, stream := stream
                                pages := pages.map fun x => (x, ⟨.none, 0⟩)
                                state := .queued, placed := 0, sheets := [] }
                            queues := s.docs.queues.set p (Queue.mk
                              ((s.docs.queues.get p).items ++ [.doc h]) (s.docs.queues.get p).cursor) }
                        store := { s.store with pages := s.store.pages.map fun x =>
                          if x.1 ∈ pages then (x.1, { x.2 with attached := some h }) else x } }) t)))))

/-- R16, R33 to R35, R40: BATCH MARK is QUEUE_FULL at 128 items. Otherwise a MARK joins the queue and the reply carries
the item count. It waits behind an unplaced item; at the cursor it is taken at once, into the mark set of an OPEN sheet
or the pending mark set, and the marks at the head leave. -/
def Obligations.BatchMarkJoinsTheQueue : Prop :=
  ∀ (s : State) (p : Port) (tag : Nat), accepts s p .batchMark →
    (128 ≤ (s.docs.queues.get p).items.length →
      exec (.batchMark p tag) s = .next (withReply p 0x8B tag .queueFull [] s))
    ∧ ((s.docs.queues.get p).items.length < 128 →
      ((s.docs.queues.get p).cursor < (s.docs.queues.get p).items.length →
        exec (.batchMark p tag) s =
          .next (withReply p 0x8B tag .ok [BitVec.ofNat 8 ((s.docs.queues.get p).items.length + 1)]
            { s with docs := { s.docs with queues := s.docs.queues.set p (Queue.mk
              ((s.docs.queues.get p).items ++ [.mark]) (s.docs.queues.get p).cursor) } }))
      ∧ ((s.docs.queues.get p).cursor = (s.docs.queues.get p).items.length →
        ∃ t, exec (.batchMark p tag) s = .next t
          ∧ lastReply t p = some ⟨0x8B, tag, .ok, [BitVec.ofNat 8 ((s.docs.queues.get p).items.length + 1)]⟩
          ∧ (s.comp.sheet = .open → t.comp.marks = s.comp.marks.set p true
              ∧ t.comp.pendingMarks = s.comp.pendingMarks)
          ∧ (s.comp.sheet ≠ .open → t.comp.pendingMarks = s.comp.pendingMarks.set p true
              ∧ t.comp.marks = s.comp.marks)
          ∧ (t.docs.queues.get p).items = ((s.docs.queues.get p).items ++ [Item.mark]).dropWhile (· == Item.mark)
          ∧ (t.docs.queues.get p).cursor = (t.docs.queues.get p).items.length
          ∧ t.docs.table = s.docs.table ∧ (∀ q : Port, q ≠ p → t.docs.queues.get q = s.docs.queues.get q)
          ∧ t.store = s.store ∧ t.comp.cell = s.comp.cell ∧ t.comp.retakes = s.comp.retakes
          ∧ t.comp.heldFlags = s.comp.heldFlags))

/-- R32, R41 to R43, R62, R181: CANCEL DOCUMENT. A handle not in use is BAD_HANDLE, a FEEDER port's request for another port's
document NOT_OWNER, a final document WRONG_STATE, one with an entry on a
FINISHED sheet, or with a frame begun on the sheet in the stage, TOO_LATE. A QUEUED
document that no sheet lists, and to which frames refer at most on a sheet that has been ABORTED: its pages are detached, its item and its retakes are gone and its record is released. A
document placed on the sheet in the stage alone: its frames there are FREE again, its entries are gone, the held flags
are clear, the reply carries the number of frames freed, and the record is released. DOC_FINAL goes to the owner. -/
def Obligations.CancelTakesTheDocumentBack : Prop :=
  ∀ (s : State) (p : Port) (tag h : Nat), accepts s p .cancelDocument →
    (docOf s h = none → exec (.cancelDocument p tag h) s = .next (withReply p 0x8C tag .badHandle [] s))
    ∧ ∀ d, docOf s h = some d →
      ((s.ports.get p).cls = .feeder → d.owner ≠ p →
        exec (.cancelDocument p tag h) s = .next (withReply p 0x8C tag .notOwner [] s))
      ∧ (((s.ports.get p).cls = .bureau ∨ d.owner = p) →
        (d.state.isFinal = true → exec (.cancelDocument p tag h) s = .next (withReply p 0x8C tag .wrongState [] s))
        ∧ (d.state = .queued → d.sheets = [] →
          (∀ r, s.index.current = some r → r.status = .aborted
            ∨ ∀ f ∈ r.frames, ∀ x, f.ref = some x → x.doc ≠ h) →
          (itemDocs (s.docs.queues.get d.owner).items).Nodup →
          ∃ t, exec (.cancelDocument p tag h) s = .next t
            ∧ lastReply t p = some ⟨0x8C, tag, .ok, []⟩
            ∧ docOf t h = none ∧ (∀ g, g ≠ h → docOf t g = docOf s g)
            ∧ h ∉ itemDocs (t.docs.queues.get d.owner).items
            ∧ (∀ q : Port, q ≠ d.owner → t.docs.queues.get q = s.docs.queues.get q)
            ∧ (∀ g, tableGet t.store.pages g = (tableGet s.store.pages g).map fun pg =>
                if (g ∈ d.pages.map (·.1)) ∧ pg.attached = some h then { pg with attached := none } else pg)
            ∧ t.store.freeList = s.store.freeList ∧ t.store.held = s.store.held
            ∧ t.comp.retakes = s.comp.retakes.filter (·.doc != h)
            ∧ (s.comp.sheet ≠ .idle → (t.ports.get d.owner).notices =
                ((s.ports.get d.owner).raise (.docFinal h .cancelled none
                  (d.pages.countP (·.2.outcome == .exposed)) (d.pages.countP (·.2.outcome == .lost)))).notices)
            ∧ t.comp.cell = s.comp.cell ∧ t.store.memory = s.store.memory)
        ∧ (d.state.isFinal = false →
          (∃ y ∈ d.sheets, ∀ r, s.index.current = some r → r.serial = y.serial →
            r.status = .finished ∨ r.status = .aborted) →
          exec (.cancelDocument p tag h) s = .next (withReply p 0x8C tag .tooLate [] s))
        ∧ (∀ r, d.state.isFinal = false → s.index.current = some r → r.status ≠ .aborted →
          (∃ f ∈ r.frames, (∃ x, f.ref = some x ∧ x.doc = h)
            ∧ (f.state = .exposing ∨ f.state = .paused ∨ f.state = .exposed ∨ f.state = .spoiled)) →
          exec (.cancelDocument p tag h) s = .next (withReply p 0x8C tag .tooLate [] s))
        ∧ (∀ r, d.state = .placing ∨ d.state = .placed → s.index.current = some r →
          r.status = .opened ∨ r.status = .closed → (∀ y ∈ d.sheets, y.serial = r.serial) →
          (∀ f ∈ r.frames, (∃ x, f.ref = some x ∧ x.doc = h) →
            f.kind ≠ .index ∧ (f.state = .placed ∨ f.state = .ready)) →
          (itemDocs (s.docs.queues.get d.owner).items).Nodup → s.comp.sheet = .open ∨ s.comp.sheet = .closing →
          ∃ t r', exec (.cancelDocument p tag h) s = .next t
            ∧ lastReply t p = some ⟨0x8C, tag, .ok,
                [BitVec.ofNat 8 (r.frames.countP fun f => f.ref.any fun x => x.doc == h)]⟩
            ∧ docOf t h = none ∧ (∀ g, g ≠ h → docOf t g = docOf s g)
            ∧ h ∉ itemDocs (t.docs.queues.get d.owner).items
            ∧ t.index.current = some r' ∧ r'.serial = r.serial
            ∧ r'.entries = r.entries.filter (·.doc != h)
            ∧ r'.revision = r.revision + r.entries.countP (·.doc == h)
            ∧ (∀ (n : Nat) (f : FrameRec), r.frames[n]? = some f → f.kind ≠ .index →
                r'.frames[n]? = some (if f.ref.any (fun x => x.doc == h)
                  then { f with state := .free, kind := .data, ref := none } else f))
            ∧ t.comp.retakes = s.comp.retakes.filter (·.doc != h) ∧ t.comp.heldFlags = everyPort false
            ∧ (t.ports.get d.owner).notices = ((s.ports.get d.owner).raise (.docFinal h .cancelled none
                (d.pages.countP (·.2.outcome == .exposed)) (d.pages.countP (·.2.outcome == .lost)))).notices
            ∧ t.store.freeList = s.store.freeList ∧ t.comp.cell = s.comp.cell))

/-! ## Placement (chapter 3) -/

/-- R14, R48, R51, R53, R54, R60, R61, R65 to R67, R181: GRANT gives frames to the pages of a port's cursor document, in
page order: the frames carry the pages, an entry joins the index (or the entry of the FLOW document's part on this sheet
takes the frames), the document is PLACED or PLACING, a document that stays PLACING holds its port, PLACED goes to the
owner, the first grant starts the age timer, and the rotation pointer moves on. The event is the next step of the run (log
entry 14), and its PLACED states every run (log entry 37). Frames of other documents stay as they are. In the port phase of
an OPEN sheet a KEEP document whose pages fit takes the lowest run of free data frames that is long enough. A FLOW document
takes its candidate frames: from the lowest free data frame on, up to as many as it has unplaced pages, until a frame would
make its entry's runs more than 8 (log entry 15); an entry that holds 8 runs goes on with the frames directly after its
last. -/
def Obligations.GrantPlacesTheCursorDocument : Prop :=
  (∀ (s : State) (p : Port) (h : Nat) (frames : List Nat) (d : Doc) (r : SheetRec),
    nextStep s = some (.grantDoc p h frames) → docOf s h = some d → s.index.current = some r →
    s.comp.sheet ≠ .idle → (d.cls = .keep → d.placed = 0) → (d.cls = .keep → 1 ≤ d.pages.length) →
    r.layout.dataFrames ≤ r.frames.length →
    ∃ t r', exec .grant s = .next t
      ∧ docOf t h = some { d with
          placed := d.placed + frames.length
          state := if d.placed + frames.length = d.pages.length then .placed else .placing
          sheets := addSheetRef r.serial true d.sheets }
      ∧ (∀ g, g ≠ h → docOf t g = docOf s g)
      ∧ t.index.current = some r' ∧ r'.serial = r.serial
      ∧ (∀ num, num = (match r.entries.find? (fun e => e.doc == h && e.kind == .normal) with
            | some e => e.num
            | none => d.sheets.countP (·.normal) + 1) →
          t.ports = s.ports.set d.owner ((s.ports.get d.owner).raise
            (.placed r.serial h .normal num (d.placed + 1) frames.length (runsOf frames) 0 0)))
      ∧ (s.comp.firstGrant = none → t.comp.firstGrant = some s.now
          ∧ (t.comp.sheet = .open → t.comp.age = if s.comp.ageLimit = 0 then none else some s.now))
      ∧ ((∀ e ∈ r.entries, e.doc = h → e.kind ≠ .normal) → r'.entries = r.entries ++ [
          { doc := h, owner := d.owner, key := d.key, kind := .normal, num := d.sheets.countP (·.normal) + 1
            firstPage := d.placed + 1, pageCount := frames.length, runs := runsOf frames, spoiled := none
            mark := none }])
      ∧ ((∃ e ∈ r.entries, e.doc = h ∧ e.kind = .normal) → r'.entries = r.entries.map fun e =>
          if e.doc = h ∧ e.kind = .normal then
            { e with pageCount := e.pageCount + frames.length, runs := runsOf (mergeFrames e.frames frames) }
          else e)
      ∧ (∀ i n, frames[i]? = some n → ∃ x fr, d.pages[d.placed + i]? = some x ∧ r'.frames[n]? = some fr
          ∧ fr.kind = .data ∧ fr.ref = some ⟨x.1, h, d.owner, d.placed + i + 1⟩
          ∧ (fr.state = .placed ∨ fr.state = .ready))
      ∧ (∀ (n : Nat) (fr : FrameRec), r.frames[n]? = some fr → fr.kind ≠ .index → n ∉ frames →
          (∀ x, fr.ref = some x → x.doc ≠ h) → r'.frames[n]? = some fr)
      ∧ t.comp.pointer = p.next ∧ t.comp.retakes = s.comp.retakes
      ∧ t.comp.heldFlags = (if d.placed + frames.length = d.pages.length then s.comp.heldFlags
          else s.comp.heldFlags.set p true)
      ∧ (∀ q : Port, q ≠ p → t.docs.queues.get q = s.docs.queues.get q)
      ∧ (d.placed + frames.length ≠ d.pages.length → t.docs.queues.get p = s.docs.queues.get p)
      ∧ t.store = s.store ∧ t.dose = s.dose ∧ t.comp.cell = s.comp.cell ∧ t.index.ring = s.index.ring)
  ∧ (∀ (s : State) (p : Port) (h : Nat) (d : Doc) (r : SheetRec) (run : ArbRun),
    s.comp.run = some run → run.retakes = false → run.port = p → run.count < 4 → s.comp.sheet = .open →
    s.comp.heldFlags.get p = false → s.index.current = some r → r.freeFrames ≠ [] →
    (s.docs.queues.get p).items[(s.docs.queues.get p).cursor]? = some (.doc h) → docOf s h = some d →
    (∀ f, d.cls = .keep → d.pages.length ≤ r.layout.dataFrames →
      (∀ x ∈ d.pages, ∃ pg, tableGet s.store.pages x.1 = some pg ∧ pageFits pg r.layout = true) →
      r.entries.length < 96 * r.layout.index → 1 ≤ d.pages.length →
      r.layout.dataFrames ≤ r.frames.length → f + d.pages.length ≤ r.layout.dataFrames →
      (∀ i < d.pages.length, ∃ fr, r.frames[f + i]? = some fr ∧ fr.state = .free) →
      (∀ g < f, ∃ i < d.pages.length, ∃ fr, r.frames[g + i]? = some fr ∧ fr.state ≠ .free) →
      nextStep s = some (.grantDoc p h ((List.range d.pages.length).map (f + ·))))
    ∧ (∀ frames, d.cls = .flow → (∀ e ∈ r.entries, e.doc = h → e.kind ≠ .normal) →
      nextStep s = some (.grantDoc p h frames) →
      frames <+: r.freeFrames ∧ frames ≠ [] ∧ (runsOf frames).length ≤ 8
        ∧ frames.length ≤ d.pages.length - d.placed)
    ∧ ∀ held taken, d.cls = .flow →
      held = (match r.entries.find? (fun e => e.doc == h && e.kind == .normal) with
        | some e => e.frames
        | none => []) →
      taken = flowFrames r.freeFrames (d.pages.length - d.placed) held → taken ≠ [] →
      (r.entries.length < 96 * r.layout.index ∨ ∃ e ∈ r.entries, e.doc = h ∧ e.kind = .normal) →
      (∀ i < taken.length, ∃ x pg, d.pages[d.placed + i]? = some x ∧ tableGet s.store.pages x.1 = some pg
        ∧ pageFits pg r.layout = true) →
      nextStep s = some (.grantDoc p h taken))
  ∧ ∀ (free held taken : List Nat) (need : Nat), taken = flowFrames free need held → free.Pairwise (· < ·) →
    taken.length ≤ need
    ∧ ((runsOf held).length < 8 →
        taken <+: free ∧ (∀ k < taken.length, (runsOf (mergeFrames held (taken.take (k + 1)))).length ≤ 8)
        ∧ (taken.length = need ∨ taken = free
          ∨ ∃ f, free[taken.length]? = some f ∧ 8 < (runsOf (mergeFrames held (taken ++ [f]))).length))
    ∧ ∀ last, 8 ≤ (runsOf held).length → held.getLast? = some last →
        taken = (List.range taken.length).map (last + 1 + ·) ∧ (∀ n ∈ taken, n ∈ free)
        ∧ (taken.length = need ∨ last + 1 + taken.length ∉ free)

/-- R52, R53, R57, R58, R181: in the retake phase of a run on an OPEN or CLOSING sheet, the first retake whose page is COMPLETE takes the lowest free data frame
by GRANT, if its page fits: the frame is of kind RETAKE, a RETAKE entry joins the index, the retake leaves the list and PLACED
goes to the owner.
If its page is UNFIT, RETAKE_UNFIT removes the retake and makes the page LOST. Each event is the next step of the run
(log entry 14). -/
def Obligations.RetakesAreGrantedOrLost : Prop :=
  ∀ (s : State) (f : Nat) (x : Retake) (earlier later : List Retake) (d : Doc) (pg : Page) (r : SheetRec)
    (run : ArbRun),
    s.comp.run = some run → run.retakes = true → s.index.current = some r →
    s.comp.sheet = .open ∨ s.comp.sheet = .closing →
    s.comp.retakes = earlier ++ x :: later → (∀ y ∈ earlier, pageComplete s y.page = false) → x ∉ earlier →
    tableGet s.store.pages x.page = some pg → pg.state = .complete → docOf s x.doc = some d →
    r.freeFrames.head? = some f → r.entries.length < 96 * r.layout.index →
    (pageFits pg r.layout = true → ∃ t r', exec .grant s = .next t
      ∧ t.comp.retakes = earlier ++ later
      ∧ docOf t x.doc = some { d with sheets := addSheetRef r.serial false d.sheets }
      ∧ t.index.current = some r' ∧ r'.serial = r.serial
      ∧ r'.entries = r.entries ++ [
          { doc := x.doc, owner := x.owner, key := d.key, kind := .retake, num := x.num, firstPage := x.index
            pageCount := 1, runs := [⟨f, 1⟩], spoiled := some (x.serial, x.frame), mark := none }]
      ∧ (∃ fr, r'.frames[f]? = some fr ∧ fr.state = .ready ∧ fr.kind = .retake
          ∧ fr.ref = some ⟨x.page, x.doc, x.owner, x.index⟩)
      ∧ t.store = s.store ∧ t.comp.pointer = s.comp.pointer ∧ t.docs.queues = s.docs.queues
      ∧ t.ports = s.ports.set x.owner ((s.ports.get x.owner).raise
          (.placed r.serial x.doc .retake x.num x.index 1 [⟨f, 1⟩] x.serial x.frame))
      ∧ t.comp.heldFlags = s.comp.heldFlags ∧ t.comp.cell = s.comp.cell)
    ∧ (pageFits pg r.layout = false → ∃ t, exec .retakeUnfit s = .next t
      ∧ t.comp.retakes = earlier ++ later
      ∧ docOf t x.doc = some (d.modPage x.index fun m => { m with outcome := .lost })
      ∧ (∃ r', t.index.current = some r' ∧ r'.entries = r.entries)
      ∧ t.store = s.store ∧ t.comp.pointer = s.comp.pointer ∧ t.docs.queues = s.docs.queues
      ∧ t.ports = s.ports ∧ t.comp.cell = s.comp.cell)

/-- R32, R64, R66, R163, R164, R181: REJECTION of a port's cursor document: it becomes REJECTED, with its record kept or
released (R28), and released where its sheet list was empty; its item and its retakes are gone; its PLACED and READY frames
are FREE, its entries lose them, one that keeps a frame being VOID, and with a frame freed every held flag is clear. That a
RETAKE entry is cut and VOID like a NORMAL one, and that the runs of a cut entry are formed anew, are log entries 17 and
37. REJECTED and then DOC_FINAL go to the owner. In the port phase of an OPEN sheet a KEEP document with more pages than data frames is rejected TOO_LONG, and
otherwise one with a page that does not fit is rejected UNFIT with the number of the first such page; a FLOW document is
rejected UNFIT when a page that its candidate frames would take does not fit. The event is the next step of the run (log
entry 14). -/
def Obligations.RejectionEndsTheCursorDocument : Prop :=
  (∀ (s : State) (p : Port) (h page : Nat) (reason : Reason) (d : Doc) (r : SheetRec),
    nextStep s = some (.rejectDoc p h reason page) → docOf s h = some d → s.index.current = some r → d.owner = p →
    (itemDocs (s.docs.queues.get p).items).Nodup → s.comp.sheet ≠ .idle →
    ∃ t r', exec .rejection s = .next t
      ∧ (docOf t h = none ∨ ∃ d', docOf t h = some d' ∧ d'.state = .rejected ∧ d'.pages = d.pages)
      ∧ (d.sheets = [] → docOf t h = none) ∧ (∀ g, g ≠ h → docOf t g = docOf s g)
      ∧ h ∉ itemDocs (t.docs.queues.get p).items
      ∧ (∀ g ∉ d.pages.map (·.1), tableGet t.store.pages g = tableGet s.store.pages g)
      ∧ t.index.current = some r' ∧ r'.serial = r.serial
      ∧ r'.entries.filter (·.doc != h) = r.entries.filter (·.doc != h)
      ∧ r'.entries = r.entries.filterMap (fun e =>
          if e.doc ≠ h then some e
          else
            match e.frames.filter (fun n => !(match r.frames[n]? with
              | some f => f.ref.any (fun x => x.doc == h) && (f.state == .placed || f.state == .ready)
              | none => false)) with
            | [] => none
            | left => some { e with runs := runsOf left, mark := some .void })
      ∧ (s.store.writes = [] → t.ports = s.ports.set p
          (((s.ports.get p).raise (.rejected h reason page)).raise (.docFinal h .rejected (some reason)
            (d.pages.countP (·.2.outcome == .exposed)) (d.pages.countP (·.2.outcome == .lost)))))
      ∧ (∀ (n : Nat) (f : FrameRec), r.frames[n]? = some f → f.kind ≠ .index →
          r'.frames[n]? = some (if f.ref.any (fun x => x.doc == h) ∧ (f.state = .placed ∨ f.state = .ready)
            then { f with state := .free, kind := .data, ref := none } else f))
      ∧ t.comp.retakes = s.comp.retakes.filter (·.doc != h)
      ∧ ((∃ f ∈ r.frames, f.ref.any (fun x => x.doc == h) ∧ (f.state = .placed ∨ f.state = .ready)) →
          t.comp.heldFlags = everyPort false)
      ∧ ((∀ f ∈ r.frames, f.ref.any (fun x => x.doc == h) → f.state ≠ .placed ∧ f.state ≠ .ready) →
          t.comp.heldFlags = s.comp.heldFlags.set p false)
      ∧ (∀ q : Port, q ≠ p → t.docs.queues.get q = s.docs.queues.get q)
      ∧ t.comp.pointer = s.comp.pointer ∧ t.comp.cell = s.comp.cell ∧ t.dose = s.dose)
  ∧ ∀ (s : State) (p : Port) (h : Nat) (d : Doc) (r : SheetRec) (run : ArbRun),
    s.comp.run = some run → run.retakes = false → run.port = p → run.count < 4 → s.comp.sheet = .open →
    s.comp.heldFlags.get p = false → s.index.current = some r → r.freeFrames ≠ [] →
    (s.docs.queues.get p).items[(s.docs.queues.get p).cursor]? = some (.doc h) → docOf s h = some d →
    (d.cls = .keep → r.layout.dataFrames < d.pages.length → nextStep s = some (.rejectDoc p h .tooLong 0))
    ∧ (∀ (i : Nat) (x : Nat × PageMark) (pg : Page), d.cls = .keep → d.pages.length ≤ r.layout.dataFrames →
      d.pages[i]? = some x → tableGet s.store.pages x.1 = some pg → pageFits pg r.layout = false →
      (∀ j < i, ∀ y, d.pages[j]? = some y →
        ∃ pg', tableGet s.store.pages y.1 = some pg' ∧ pageFits pg' r.layout = true) →
      nextStep s = some (.rejectDoc p h .unfit (i + 1)))
    ∧ ∀ (i : Nat) (x : Nat × PageMark) (pg : Page) (held taken : List Nat), d.cls = .flow →
      held = (match r.entries.find? (fun e => e.doc == h && e.kind == .normal) with
        | some e => e.frames
        | none => []) →
      taken = flowFrames r.freeFrames (d.pages.length - d.placed) held → i < taken.length →
      (r.entries.length < 96 * r.layout.index ∨ ∃ e ∈ r.entries, e.doc = h ∧ e.kind = .normal) →
      d.pages[d.placed + i]? = some x → tableGet s.store.pages x.1 = some pg → pageFits pg r.layout = false →
      (∀ j < i, ∀ y, d.pages[d.placed + j]? = some y →
        ∃ pg', tableGet s.store.pages y.1 = some pg' ∧ pageFits pg' r.layout = true) →
      nextStep s = some (.rejectDoc p h .unfit (d.placed + i + 1))

/-- R12, R13, R50, R52, R60, R61, R65 to R67: TRY_FAILURE holds the port; documents, pages and frames stay as they are. In
the port phase of an OPEN sheet the try of a KEEP document whose pages fit fails when no run of free data frames is long
enough or the index has no room; the try of a FLOW document fails when it has no candidate frame, or needs an entry and the
index has no room. The event is the next step of the run (log entry 14). The run of an OPEN sheet ends when no data frame is
FREE, or when four considerations in succession have made no grant and the retake phase has no step; that end is taken at a
tick (log entry 14). The close conditions are then tested, in their order: the sheet closes FULL, BARRIER or STARVED, or
stays OPEN with no run in progress. -/
def Obligations.FailedTryHoldsThePort : Prop :=
  (∀ (s : State) (p : Port) (r : SheetRec), nextStep s = some (.failTry p) → s.index.current = some r →
    s.comp.sheet ≠ .idle →
    ∃ t, exec .tryFailure s = .next t
      ∧ t.comp.heldFlags = s.comp.heldFlags.set p true ∧ t.comp.pointer = s.comp.pointer
      ∧ t.docs = s.docs ∧ t.store = s.store ∧ t.comp.retakes = s.comp.retakes ∧ t.comp.cell = s.comp.cell
      ∧ t.dose = s.dose ∧ t.ports = s.ports
      ∧ ∃ r', t.index.current = some r' ∧ RecordKept r r')
  ∧ (∀ (s : State) (p : Port) (h : Nat) (d : Doc) (r : SheetRec) (run : ArbRun),
    s.comp.run = some run → run.retakes = false → run.port = p → run.count < 4 → s.comp.sheet = .open →
    s.comp.heldFlags.get p = false → s.index.current = some r → r.freeFrames ≠ [] →
    (s.docs.queues.get p).items[(s.docs.queues.get p).cursor]? = some (.doc h) → docOf s h = some d →
    (d.cls = .keep → 1 ≤ d.pages.length → d.pages.length ≤ r.layout.dataFrames →
      (∀ x ∈ d.pages, ∃ pg, tableGet s.store.pages x.1 = some pg ∧ pageFits pg r.layout = true) →
      (96 * r.layout.index ≤ r.entries.length
        ∨ ∀ f, f + d.pages.length ≤ r.layout.dataFrames →
            ∃ i < d.pages.length, ∃ fr, r.frames[f + i]? = some fr ∧ fr.state ≠ .free) →
      nextStep s = some (.failTry p))
    ∧ ∀ held taken : List Nat, d.cls = .flow →
      held = (match r.entries.find? (fun e => e.doc == h && e.kind == .normal) with
        | some e => e.frames
        | none => []) →
      taken = flowFrames r.freeFrames (d.pages.length - d.placed) held →
      (taken = [] ∨ 96 * r.layout.index ≤ r.entries.length ∧ ∀ e ∈ r.entries, e.doc = h → e.kind ≠ .normal) →
      nextStep s = some (.failTry p))
  ∧ ∀ (s : State) (r : SheetRec) (run : ArbRun) (full barrier starved : Prop) (closes : CloseReason → Prop),
    s.pending = [] → s.comp.run = some run → s.comp.sheet = .open → s.index.current = some r →
    (r.freeFrames = [] ∨ 4 ≤ run.count ∧ (run.retakes = false ∨ 96 * r.layout.index ≤ r.entries.length
      ∨ ∀ x ∈ s.comp.retakes, ∀ pg, tableGet s.store.pages x.page = some pg → pg.state = .receiving)) →
    (full ↔ r.freeFrames = [] ∨ 96 * r.layout.index ≤ r.entries.length) →
    (barrier ↔ (∃ q : Port, s.comp.group.get q = true) ∧ s.comp.firstGrant ≠ none
      ∧ ∀ q : Port, s.comp.group.get q = true → s.comp.marks.get q = true) →
    (starved ↔ s.comp.starveClose = true
      ∧ (∃ q : Port, (s.docs.queues.get q).cursor < (s.docs.queues.get q).items.length)
      ∧ ∀ q : Port, (s.docs.queues.get q).cursor < (s.docs.queues.get q).items.length →
          s.comp.heldFlags.get q = true) →
    (∀ c, closes c ↔ ∃ t r', step s = .next t ∧ t.index.current = some r' ∧ r'.status = .closed
      ∧ r'.reason = some c ∧ SettledFrom (closedFor c { s with now := s.now + 1 }) t) →
    (full → closes .full) ∧ (¬ full → barrier → closes .barrier) ∧ (¬ full → ¬ barrier → starved → closes .starved)
    ∧ (¬ full → ¬ barrier → ¬ starved → ∃ t, step s = .next t ∧ t.comp.run = none ∧ t.comp.sheet = .open
        ∧ SettledFrom { s with now := s.now + 1 } t)

/-! ## Image Store (chapter 4) -/

/-- R75, R76: DEFINE PAGE makes its checks in their order; accepted, it takes the first blocks of the free list, at the
lowest free handle, and answers the sizes of R76. -/
def Obligations.DefinePageReservesBlocks : Prop :=
  ∀ (s : State) (p : Port) (tag w h depth dpi code : Nat), accepts s p .definePage →
    ∀ rowBytes perBlock b : Nat, rowBytes = (w * depth + 7) / 8 → perBlock = 16384 / rowBytes →
      b = (h + perBlock - 1) / perBlock →
    (¬ (1 ≤ w ∧ w ≤ 4096 ∧ 1 ≤ h ∧ h ≤ 6144 ∧ (depth = 1 ∨ depth = 2 ∨ depth = 4 ∨ depth = 8)
        ∧ 100 ≤ dpi ∧ dpi ≤ 600 ∧ code ≤ 3) →
      exec (.definePage p tag w h depth dpi code) s = .next (withReply p 0x8E tag .badValue [] s))
    ∧ ∀ rot, 1 ≤ w → w ≤ 4096 → 1 ≤ h → h ≤ 6144 → (depth = 1 ∨ depth = 2 ∨ depth = 4 ∨ depth = 8) → 100 ≤ dpi →
      dpi ≤ 600 → rotationOfCode code = some rot →
      (256 < b → exec (.definePage p tag w h depth dpi code) s = .next (withReply p 0x8E tag .tooLarge (u16 b) s))
      ∧ (b ≤ 256 →
        (s.store.quota.get p < s.store.held.get p + b →
          exec (.definePage p tag w h depth dpi code) s =
            .next (withReply p 0x8E tag .overQuota
              (u16 b ++ u16 (s.store.held.get p) ++ u16 (s.store.quota.get p)) s))
        ∧ (s.store.held.get p + b ≤ s.store.quota.get p →
          (s.store.freeList.length < b →
            exec (.definePage p tag w h depth dpi code) s =
              .next (withReply p 0x8E tag .storeFull (u16 b ++ u16 s.store.freeList.length) s))
          ∧ (b ≤ s.store.freeList.length →
            ((∀ g < 1024, tableGet s.store.pages g ≠ none) →
              exec (.definePage p tag w h depth dpi code) s = .next (withReply p 0x8E tag .tableFull [] s))
            ∧ ∀ g < 1024, tableGet s.store.pages g = none → (∀ g' < g, tableGet s.store.pages g' ≠ none) →
              ∃ t, exec (.definePage p tag w h depth dpi code) s = .next t
                ∧ t = withReply p 0x8E tag .ok
                    (u16 g ++ u16 rowBytes ++ u16 perBlock ++ u16 b ++ u16 (s.store.held.get p + b)
                      ++ u16 (s.store.freeList.length - b))
                    { s with store := { s.store with
                        freeList := s.store.freeList.drop b, blockMap := t.store.blockMap
                        held := s.store.held.set p (s.store.held.get p + b)
                        pages := tablePut s.store.pages g
                          { owner := p, width := w, height := h, depth := depth, dpi := dpi, rotation := rot
                            rowBytes := rowBytes, rowsPerBlock := perBlock, rowMap := s.store.freeList.take b
                            received := 0, state := .receiving, attached := none } } }
                ∧ tableGet t.store.pages g ≠ none)))

/-- R79 to R81, R90, R176: PUT ROWS makes its checks in their order, and a request that fails one writes no row and changes no
count. Accepted, its rows wait to be written, behind those of the requests accepted before it, and the port stays BUSY with
the request. -/
def Obligations.PutRowsIsCheckedInOrder : Prop :=
  ∀ (s : State) (p : Port) (tag page first count : Nat) (data : List Byte), accepts s p .putRows →
    (tableGet s.store.pages page = none →
      exec (.putRows p tag page first count data) s = .next (withReply p 0x8F tag .badHandle [] s))
    ∧ ∀ pg, tableGet s.store.pages page = some pg →
      (pg.owner ≠ p → exec (.putRows p tag page first count data) s = .next (withReply p 0x8F tag .notOwner [] s))
      ∧ (pg.owner = p →
        (pg.state = .complete →
          exec (.putRows p tag page first count data) s =
            .next (withReply p 0x8F tag .tooLate (u16 pg.received) s))
        ∧ (pg.state = .receiving →
          (¬ (1 ≤ count ∧ data.length ≤ 16384 ∧ data.length = count * pg.rowBytes) →
            exec (.putRows p tag page first count data) s = .next (withReply p 0x8F tag .badValue [] s))
          ∧ (1 ≤ count → data.length ≤ 16384 → data.length = count * pg.rowBytes →
            (first ≠ pg.received →
              exec (.putRows p tag page first count data) s =
                .next (withReply p 0x8F tag .outOfOrder (u16 pg.received) s))
            ∧ (first = pg.received →
              (pg.height < first + count →
                exec (.putRows p tag page first count data) s =
                  .next (withReply p 0x8F tag .badValue (u16 pg.received) s))
              ∧ (first + count ≤ pg.height →
                exec (.putRows p tag page first count data) s =
                  .next (withBusy p (.putRows tag)
                    { s with store := { s.store with
                      writes := s.store.writes ++ [⟨p, tag, page, first, count, data⟩] } }))))))

/-- R2, R49, R57, R68, R69, R81 to R83, R90, R128: ROWS_WRITTEN finishes the oldest accepted PUT ROWS: its rows stand in the
block memory where the page's row map places them, every other byte is unchanged, the rows received rise, the page is
COMPLETE with its last row, and the port is answered and IDLE. A PLACED frame of the page becomes READY when the page is
COMPLETE or the stream conditions hold; other frames stay. A Writer that waits for a row of the page, which has now
arrived, ends its pause and asks for a resume sample (which waits for a measurement in flight, log entry 13); for a later
row, and for another page, it waits on. With the page COMPLETE and a retake of it waiting, the run of an OPEN or CLOSING
sheet with a free data frame and room in its index stands at a retake in its retake phase (log entry 14), and in IDLE a
sheet opens if no halt stands. -/
def Obligations.RowsWrittenStoresTheRows : Prop :=
  ∀ (s : State) (w : PendingWrite) (rest : List PendingWrite) (pg : Page), StoreSound s →
    s.store.writes = w :: rest → tableGet s.store.pages w.page = some pg →
    w.data.length = w.count * pg.rowBytes → w.first + w.count ≤ pg.height →
    ∃ t pg', exec .rowsWritten s = .next t
      ∧ t.store.writes = rest
      ∧ pg' = { pg with
          received := pg.received + w.count
          state := if pg.received + w.count = pg.height then .complete else pg.state }
      ∧ (∀ g, tableGet t.store.pages g = if g = w.page then some pg' else tableGet s.store.pages g)
      ∧ (∀ i j, i < w.count → j < pg.rowBytes →
          memoryRead t.store.memory (rowAddress pg (w.first + i) + j) = w.data.getD (i * pg.rowBytes + j) 0#8)
      ∧ (∀ a, ¬ rowBytesAt pg w.first w.count a → memoryRead t.store.memory a = memoryRead s.store.memory a)
      ∧ (t.ports.get w.port).busy = none
      ∧ lastReply t w.port = some ⟨0x8F, w.tag, .ok,
          u16 pg'.received ++ u8 (if pg'.state = .complete then 1 else 0)⟩
      ∧ t.store.freeList = s.store.freeList ∧ t.store.held = s.store.held ∧ t.docs = s.docs
      ∧ t.comp.cell = s.comp.cell
      ∧ (∀ r, s.comp.sheet ≠ .idle → s.index.current = some r →
          ∃ r', t.index.current = some r' ∧ r'.serial = r.serial ∧ r'.entries = r.entries
          ∧ ∀ (n : Nat) (f : FrameRec) (opens : Prop), r.frames[n]? = some f → f.kind ≠ .index →
            (opens ↔ f.state = .placed ∧ ∃ x, f.ref = some x ∧ x.page = w.page
              ∧ (pg'.state = .complete
                ∨ f.kind = .data ∧ pg.rotation = .r0 ∧ min 64 pg.height ≤ pg'.received
                  ∧ ∃ d, docOf s x.doc = some d ∧ d.stream = true)) →
            (opens → r'.frames[n]? = some { f with state := .ready }) ∧ (¬ opens → r'.frames[n]? = some f))
      ∧ (∀ row, s.store.wait = some ⟨w.page, row⟩ → s.writer.mode = .paused →
          (row < pg'.received → t.store.wait = none ∧ t.writer.pause = none ∧ t.writer.sample = some .resume
            ∧ t.writer.mode = .paused
            ∧ (s.beam.inFlight = none → Requester.writer ∈ t.beam.serving ∧ t.beam.inFlight = some s.now)
            ∧ (s.beam.inFlight ≠ none → Requester.writer ∈ t.beam.waiting ∧ t.beam.inFlight = s.beam.inFlight
                ∧ t.beam.serving = s.beam.serving))
          ∧ (pg'.received ≤ row → t.store.wait = s.store.wait ∧ t.writer = s.writer))
      ∧ ((∀ x, s.store.wait = some x → x.page ≠ w.page) →
          t.store.wait = s.store.wait ∧ t.writer.pause = s.writer.pause ∧ t.writer.site = s.writer.site)
      ∧ (∀ r, pg'.state = .complete → (∃ x ∈ s.comp.retakes, x.page = w.page) → s.index.current = some r →
          r.freeFrames ≠ [] → r.entries.length < 96 * r.layout.index →
          s.comp.sheet = .open ∨ s.comp.sheet = .closing →
          t.comp.sheet = s.comp.sheet ∧ (∃ run, t.comp.run = some run ∧ run.retakes = true)
          ∧ ∃ x ∈ s.comp.retakes, ∃ pgx, tableGet t.store.pages x.page = some pgx ∧ pgx.state = .complete
            ∧ (pageFits pgx r.layout = true → ∃ f, r.freeFrames.head? = some f
                ∧ nextStep t = some (.grantRetake x f))
            ∧ (pageFits pgx r.layout = false → nextStep t = some (.unfitRetake x)))
      ∧ (pg'.state = .complete → (∃ x ∈ s.comp.retakes, x.page = w.page) → s.comp.sheet = .idle →
          s.comp.halts = [] → s.comp.nextSerial ≤ 99999999 →
          t.comp.sheet = .opening ∧ t.comp.greatest = s.comp.nextSerial)

/-- R86, R87: DROP PAGE makes its checks in their order; accepted, the blocks join the tail of the free list, the held
count falls and the record is gone; the reply carries the held count and the free blocks. -/
def Obligations.DropPageFreesItsBlocks : Prop :=
  ∀ (s : State) (p : Port) (tag page : Nat), accepts s p .dropPage →
    (tableGet s.store.pages page = none →
      exec (.dropPage p tag page) s = .next (withReply p 0x91 tag .badHandle [] s))
    ∧ ∀ pg, tableGet s.store.pages page = some pg →
      (pg.owner ≠ p → exec (.dropPage p tag page) s = .next (withReply p 0x91 tag .notOwner [] s))
      ∧ (pg.owner = p → ∀ h, pg.attached = some h →
          exec (.dropPage p tag page) s = .next (withReply p 0x91 tag .inUse (u16 h) s))
      ∧ (pg.owner = p → pg.attached = none → (∀ w ∈ s.store.writes, w.page ≠ page) →
          ∃ t, exec (.dropPage p tag page) s = .next t
            ∧ t = withReply p 0x91 tag .ok
                (u16 (s.store.held.get p - pg.rowMap.length)
                  ++ u16 (s.store.freeList.length + pg.rowMap.length))
                { s with store := { s.store with
                    freeList := s.store.freeList ++ pg.rowMap, blockMap := t.store.blockMap
                    held := s.store.held.set p (s.store.held.get p - pg.rowMap.length)
                    pages := t.store.pages } }
            ∧ ∀ g, tableGet t.store.pages g = if g = page then none else tableGet s.store.pages g)

/-- R78: SET QUOTA is accepted in every sheet state: the named port's quota becomes the value, or 2048 where it is above
that; the reply carries the port, the stored quota and the port's held count; a port letter outside A to D is BAD_VALUE.
The next DEFINE PAGE from the named port is tested against the new quota. -/
def Obligations.SetQuotaStoresTheQuota : Prop :=
  ∀ (s : State) (p : Port) (tag code value : Nat), accepts s p .setQuota →
    (3 < code → exec (.setQuota p tag code value) s = .next (withReply p 0x92 tag .badValue [] s))
    ∧ ∀ q : Port, portCode q = code →
      exec (.setQuota p tag code value) s =
        .next (withReply p 0x92 tag .ok (u8 code ++ u16 (min 2048 value) ++ u16 (s.store.held.get q))
          { s with store := { s.store with quota := s.store.quota.set q (min 2048 value) } })
      ∧ ∀ (t : State) (tag' w h depth dpi rot : Nat), exec (.setQuota p tag code value) s = .next t →
          accepts t q .definePage → (checkedPage w h depth dpi rot).isSome = true → blocksOf w h depth ≤ 256 →
          min 2048 value < t.store.held.get q + blocksOf w h depth →
          exec (.definePage q tag' w h depth dpi rot) t =
            .next (withReply q 0x8E tag' .overQuota
              (u16 (blocksOf w h depth) ++ u16 (t.store.held.get q) ++ u16 (min 2048 value)) t)

/-! ## Dose Unit (chapter 5) -/

/-- R109, R111, R113, R114: SET TONE MAP, SET OVERLAY MAP, SELECT CURVE BANK and SET WRITER replace their staged settings
and answer them; a value out of its range is BAD_VALUE, and a FEEDER port may write its own tone map only. What is
latched stays as it is. That an overlay entry out of its range and a tone map that is no map of 16 entries are refused,
and that a port letter is tested before the owner and the map after it, are the model's choices (log entry 31). -/
def Obligations.StagedSettingsAreReplaced : Prop :=
  ∀ (s : State) (p : Port) (tag : Nat),
    (accepts s p .setToneMap → ∀ (code : Nat) (map : List Nat),
      (3 < code → exec (.setToneMap p tag code map) s = .next (withReply p 0x93 tag .badValue [] s))
      ∧ ∀ q : Port, portCode q = code →
        ((s.ports.get p).cls = .feeder → q ≠ p →
          exec (.setToneMap p tag code map) s = .next (withReply p 0x93 tag .notOwner [] s))
        ∧ (((s.ports.get p).cls = .bureau ∨ q = p) → toneMapSound map →
          exec (.setToneMap p tag code map) s =
            .next (withReply p 0x93 tag .ok (u8 code ++ map.map (BitVec.ofNat 8 ·))
              { s with dose := { s.dose with tones := s.dose.tones.set q map } }))
        ∧ (((s.ports.get p).cls = .bureau ∨ q = p) → map.length ≠ 16 ∨ (∃ v ∈ map, 255 < v) →
          exec (.setToneMap p tag code map) s = .next (withReply p 0x93 tag .badValue [] s)))
    ∧ (accepts s p .setOverlayMap → ∀ glyph cell : Nat,
      (glyph ≤ 255 → cell ≤ 255 → exec (.setOverlayMap p tag glyph cell) s =
        .next (withReply p 0x94 tag .ok [BitVec.ofNat 8 glyph, BitVec.ofNat 8 cell]
          { s with dose := { s.dose with glyphTone := glyph, cellTone := cell } }))
      ∧ (255 < glyph ∨ 255 < cell →
        exec (.setOverlayMap p tag glyph cell) s = .next (withReply p 0x94 tag .badValue [] s)))
    ∧ (accepts s p .selectCurveBank → ∀ bank : Nat,
      (bank ≤ 1 → exec (.selectCurveBank p tag bank) s =
        .next (withReply p 0x96 tag .ok
          (BitVec.ofNat 8 bank ::
            if s.comp.sheet = .unloaded ∨ s.comp.sheet = .idle then [0#8]
            else [1#8, BitVec.ofNat 8 s.dose.sheet.bank])
          { s with dose := { s.dose with bankSel := bank } }))
      ∧ (1 < bank → exec (.selectCurveBank p tag bank) s = .next (withReply p 0x96 tag .badValue [] s)))
    ∧ (accepts s p .setWriter → ∀ gain dotTime : Nat,
      (1 ≤ gain → gain ≤ 1023 → 16 ≤ dotTime → dotTime ≤ 1023 → exec (.setWriter p tag gain dotTime) s =
        .next (withReply p 0x98 tag .ok (u16 gain ++ u16 dotTime)
          { s with dose := { s.dose with gain := gain, dotTime := dotTime } }))
      ∧ (¬ (1 ≤ gain ∧ gain ≤ 1023 ∧ 16 ≤ dotTime ∧ dotTime ≤ 1023) →
        exec (.setWriter p tag gain dotTime) s =
          .next (withReply p 0x98 tag .badValue (u16 s.dose.gain ++ u16 s.dose.dotTime) s)))

/-- R110: WRITE CURVE: fields out of their ranges are BAD_VALUE, the bank that the sheet in the stage has latched is
BANK_ACTIVE; otherwise entries from the start on take the values, each capped at 2500, and stand in the reply. The other
bank and every other entry are unchanged. A count that is not that of the values is BAD_VALUE (log entry 31). -/
def Obligations.WriteCurveReplacesEntries : Prop :=
  ∀ (s : State) (p : Port) (tag bank start count : Nat) (entries : List Nat), accepts s p .writeCurve →
    (¬ (bank ≤ 1 ∧ 1 ≤ count ∧ count ≤ 64 ∧ count = entries.length ∧ start + count ≤ 256) →
      exec (.writeCurve p tag bank start count entries) s = .next (withReply p 0x95 tag .badValue [] s))
    ∧ (bank ≤ 1 → 1 ≤ count → count ≤ 64 → count = entries.length → start + count ≤ 256 →
      (s.comp.sheet ≠ .unloaded → s.comp.sheet ≠ .idle → s.dose.sheet.bank = bank →
        exec (.writeCurve p tag bank start count entries) s = .next (withReply p 0x95 tag .bankActive [] s))
      ∧ (s.comp.sheet = .unloaded ∨ s.comp.sheet = .idle ∨ s.dose.sheet.bank ≠ bank →
        curveSound s.dose.bank0 → curveSound s.dose.bank1 →
        ∃ t, exec (.writeCurve p tag bank start count entries) s = .next t
          ∧ t = withReply p 0x95 tag .ok
              (u8 bank ++ u8 start ++ u8 count ++ (entries.map (min 2500 ·)).flatMap u16)
              { s with dose := { s.dose with bank0 := t.dose.bank0, bank1 := t.dose.bank1 } }
          ∧ (bank = 0 → t.dose.bank1 = s.dose.bank1 ∧ ∀ n : Nat, t.dose.bank0[n]? =
              if start ≤ n ∧ n < start + count then (entries[n - start]?).map (min 2500 ·) else s.dose.bank0[n]?)
          ∧ (bank = 1 → t.dose.bank0 = s.dose.bank0 ∧ ∀ n : Nat, t.dose.bank1[n]? =
              if start ≤ n ∧ n < start + count then (entries[n - start]?).map (min 2500 ·)
              else s.dose.bank1[n]?)))

/-- R112: SET FILM RESPONSE replaces the staged table with 26 values that do not fall; a table that falls is BAD_VALUE
with the lowest place at which a value is less than the one before it. The latched table is unchanged. -/
def Obligations.FilmResponseMustNotFall : Prop :=
  ∀ (s : State) (p : Port) (tag : Nat) (points : List Nat), accepts s p .setFilmResponse →
    (responseSound points → exec (.setFilmResponse p tag points) s =
      .next (withReply p 0x97 tag .ok [] { s with dose := { s.dose with response := points } }))
    ∧ ∀ i : Nat, points.getD (i + 1) 0 < points.getD i 0 → i + 1 < points.length →
        (∀ j < i, points.getD j 0 ≤ points.getD (j + 1) 0) →
        exec (.setFilmResponse p tag points) s = .next (withReply p 0x97 tag .badValue [BitVec.ofNat 8 (i + 1)] s)

/-- R93: the scale chosen is the largest of 32 to 64 at which both written extents fit the frame area; there is none
exactly when none fits. -/
def Obligations.BestScaleIsTheLargestThatFits : Prop :=
  ∀ p0 w h fw fh : Nat,
    (∀ k : Nat, bestScale p0 w h fw fh = some k →
      32 ≤ k ∧ k ≤ 64 ∧ w * (p0 * k / 64) ≤ fw ∧ h * (p0 * k / 64) ≤ fh
      ∧ ∀ k' : Nat, k < k' → k' ≤ 64 → ¬ (w * (p0 * k' / 64) ≤ fw ∧ h * (p0 * k' / 64) ≤ fh))
    ∧ (bestScale p0 w h fw fh = none ↔
      ∀ k : Nat, 32 ≤ k → k ≤ 64 → ¬ (w * (p0 * k / 64) ≤ fw ∧ h * (p0 * k / 64) ≤ fh))

/-! ## Frame Writer (chapter 6) -/

/-- R19, R92 to R95, R97, R98, R107, R117 to R119, R125, R154: FRAME_START with the Writer IDLE and no halt starts the lowest READY data frame of an OPEN or
CLOSING sheet: it is EXPOSING and the frame in progress, the staged settings and its owner's tone map are latched, and
its report is open with the geometry of its page on the latched layout: extents, scale, pitch and offsets; that of an index
frame and of the title is that of their synthetic page. A move of the stage to the site is asked for; a transport at rest
begins it. Under a layout with an imprint it carries the serial, its address and the first 11 characters of its
document's key. In INDEXING it starts the lowest READY index frame, and with none READY the title while its status is
PENDING; neither has a tone map of its own or an imprint. Other frames stay as they are. The frame is chosen when the event is taken
(log entry 23); the place of a site is log entry 41. -/
def Obligations.FrameStartTakesTheLowestReadyFrame : Prop :=
  (∀ (s : State) (r : SheetRec) (n : Nat) (f : FrameRec) (x : PageRef),
    s.comp.sheet = .open ∨ s.comp.sheet = .closing → s.index.current = some r → s.writer.mode = .idle →
    s.comp.halts = [] → r.frames[n]? = some f → f.state = .ready → f.kind ≠ .index → f.ref = some x →
    (∀ m < n, ∀ g : FrameRec, r.frames[m]? = some g → g.state ≠ .ready ∨ g.kind = .index) →
    ∃ t, exec .frameStart s = .next t
      ∧ t.index.current = some { r with frames := r.frames.set n { f with state := .exposing } }
      ∧ t.writer.mode = .moving ∧ t.writer.site = some (.frame n) ∧ t.writer.line = 0
      ∧ (∃ rep, t.writer.report = some rep ∧ rep.lines = 0 ∧ rep.saturated = 0 ∧ rep.cause = none
          ∧ rep.isSaturated = false ∧ rep.isDrift = false
          ∧ (rep.isStreamed = true ↔ ∃ pg, tableGet s.store.pages x.page = some pg ∧ pg.state = .receiving)
          ∧ ∀ pg g, tableGet s.store.pages x.page = some pg → PageGeometryIs pg r.layout g →
            t.writer.geometry = g ∧ rep.openedWith g (decide (pg.state = .receiving)))
      ∧ MoveAskedFor (.cell (n % r.layout.cols * r.layout.width) (n / r.layout.cols * r.layout.height)) s t
      ∧ (∀ d, docOf s x.doc = some d → t.writer.imprint =
          if r.layout.imprint = .off then none else some (imprintOf r.serial r.layout n d.key))
      ∧ t.writer.drift = s.beam.drift
      ∧ t.dose = { s.dose with frame :=
          ⟨s.dose.gain, s.dose.dotTime, s.dose.glyphTone, s.dose.cellTone, s.dose.tones.get x.owner⟩ }
      ∧ t.docs = s.docs ∧ t.store = s.store ∧ t.comp = s.comp ∧ t.ports = s.ports ∧ t.index.ring = s.index.ring)
  ∧ ∀ (s : State) (r : SheetRec), s.comp.sheet = .indexing → s.index.current = some r → s.writer.mode = .idle →
    s.comp.halts = [] →
    (∀ (n : Nat) (f : FrameRec), r.frames[n]? = some f → f.state = .ready → f.kind = .index → f.ref = none →
      (∀ m < n, ∀ g : FrameRec, r.frames[m]? = some g → g.state ≠ .ready ∨ g.kind ≠ .index) →
      ∃ t, exec .frameStart s = .next t
        ∧ t.index =
            { s.index with current := some { r with frames := r.frames.set n { f with state := .exposing } } }
        ∧ t.writer.mode = .moving ∧ t.writer.site = some (.frame n) ∧ t.writer.line = 0
        ∧ (∃ rep, t.writer.report = some rep ∧ rep.openedWith t.writer.geometry false
            ∧ IndexGeometryIs r.layout t.writer.geometry)
        ∧ MoveAskedFor (.cell (n % r.layout.cols * r.layout.width) (n / r.layout.cols * r.layout.height)) s t
        ∧ t.writer.imprint = none
        ∧ t.writer.drift = s.beam.drift
        ∧ t.dose = { s.dose with frame :=
            ⟨s.dose.gain, s.dose.dotTime, s.dose.glyphTone, s.dose.cellTone, s.dose.frame.tone⟩ }
        ∧ t.docs = s.docs ∧ t.store = s.store ∧ t.comp = s.comp ∧ t.ports = s.ports)
    ∧ ((∀ g ∈ r.frames, g.state ≠ .ready ∨ g.kind ≠ .index) → r.title = .pending →
      ∃ t, exec .frameStart s = .next t
        ∧ t.index = s.index ∧ t.writer.mode = .moving ∧ t.writer.site = some .title ∧ t.writer.line = 0
        ∧ (∃ rep, t.writer.report = some rep ∧ rep.openedWith t.writer.geometry false
            ∧ t.writer.geometry = ⟨1200, 48, 64, 84666, 19200400, 3468016⟩)
        ∧ MoveAskedFor .title s t
        ∧ t.writer.imprint = none
        ∧ t.writer.drift = s.beam.drift
        ∧ t.dose = { s.dose with frame :=
            ⟨s.dose.gain, s.dose.dotTime, s.dose.glyphTone, s.dose.cellTone, s.dose.frame.tone⟩ }
        ∧ t.docs = s.docs ∧ t.store = s.store ∧ t.comp = s.comp ∧ t.ports = s.ports)

/-- R106, R122, R123, R137: RETRACE_START ends the dots of a line: the lines written rise by 1, the laser is off, the
retrace begins no earlier than the line's dots take; but for the last line of the frame the Writer waits for its retrace
sample, which begins at once if no measurement is in flight. The clock is that of log entry 7; the sample that waits for
a measurement in flight is log entry 13. -/
def Obligations.RetraceStartEndsTheDots : Prop :=
  ∀ (s : State) (rep : Report), s.writer.mode = .writing → s.writer.phase = .dots → s.writer.report = some rep →
    ∃ t, exec .retraceStart s = .next t
      ∧ t.now = max s.now (s.writer.lineStart + s.writer.geometry.width * s.dose.frame.dotTime)
      ∧ t.writer = { s.writer with
          phase := .retrace, pulses := [], retraceStart := t.now
          report := some { rep with lines := rep.lines + 1 }
          sample := if s.writer.line + 1 < s.writer.geometry.height then some .retrace else s.writer.sample }
      ∧ (s.writer.geometry.height ≤ s.writer.line + 1 → t.beam = s.beam)
      ∧ (s.writer.line + 1 < s.writer.geometry.height → t.beam.inFlight ≠ none
          ∧ (s.beam.inFlight = none → Requester.writer ∈ t.beam.serving ∧ t.beam.inFlight = some t.now)
          ∧ (s.beam.inFlight ≠ none → Requester.writer ∈ t.beam.waiting ∧ t.beam.inFlight = s.beam.inFlight))
      ∧ t.ports = s.ports ∧ t.docs = s.docs ∧ t.store = s.store ∧ t.comp = s.comp ∧ t.dose = s.dose
      ∧ t.film = s.film ∧ t.index = s.index

/-- R19, R79, R83, R96, R99 to R106, R116, R122, R126, R127, R130, R134, R168 to R171, R181: LINE_END after the last line ends the frame: it is EXPOSED with its report, in
which the SATURATED flag tells of a saturated count, its page's outcome is EXPOSED, and the Writer has no frame in progress: it is IDLE, or HELD when the halt list holds a cause.
An index frame and the title of a sheet in INDEXING end so too; when every index frame is EXPOSED or SPOILED and the title
is no longer PENDING the sheet passes to FINISHING, which asks for the finishing advance, and until then it stays in
INDEXING. After another
line, with no measurement in flight or waiting, the dots of the next line begin; where a page row that the next line
draws on has not arrived (here: of a page that is not turned) the frame pauses, the wait for that row is set,
ROWS_WANTED goes to the page's owner and the pause timer starts. The clock, the wait for a measurement and the moment of
the pulses are log entries 7, 13 and 24. With the settings in their ranges and the page's depth one of the four, the pulses
that begin are those of LineIs, each from its pixel, tone, density, dose, gain and reading, and the report counts those
saturated; the dots of the glyphs are free values (log entry 1). -/
def Obligations.LineEndGoesOnOrEndsTheFrame : Prop :=
  ∀ (s : State) (r : SheetRec) (rep : Report), s.writer.mode = .writing → s.writer.phase = .retrace →
    s.writer.sample = none → s.writer.report = some rep → s.index.current = some r → s.comp.sheet ≠ .idle →
    (∀ (n : Nat) (f : FrameRec) (x : PageRef) (d : Doc), s.writer.geometry.height ≤ s.writer.line + 1 →
      s.writer.site = some (.frame n) →
      r.frames[n]? = some f → f.kind ≠ .index → f.ref = some x → docOf s x.doc = some d →
      ∃ t r', exec .lineEnd s = .next t
        ∧ t.writer.site = none ∧ t.writer.mode = (if s.comp.halts = [] then .idle else .held)
        ∧ t.index.current = some r' ∧ r'.serial = r.serial
        ∧ r'.frames[n]? = some { f with
            state := .exposed, report := some { rep with isSaturated := decide (0 < rep.saturated), cause := none } }
        ∧ (∀ (m : Nat) (g : FrameRec), m ≠ n → r.frames[m]? = some g → g.kind ≠ .index → r'.frames[m]? = some g)
        ∧ docOf t x.doc = some { d with pages := d.pages.modify (x.index - 1) fun y =>
            (y.1, { y.2 with outcome := .exposed }) }
        ∧ (∀ h, h ≠ x.doc → docOf t h = docOf s h)
        ∧ t.store.wait = none ∧ t.store.memory = s.store.memory ∧ t.store.pages = s.store.pages
        ∧ t.comp.cell = s.comp.cell)
    ∧ (s.writer.geometry.height ≤ s.writer.line + 1 → s.comp.sheet = .indexing →
      ∀ (r1 : SheetRec) (rep1 : Report),
        rep1 = { rep with isSaturated := decide (0 < rep.saturated), cause := none } →
        ((∃ (n : Nat) (f : FrameRec), s.writer.site = some (.frame n) ∧ r.frames[n]? = some f ∧ f.ref = none
            ∧ r1 = { r with frames := r.frames.set n { f with state := .exposed, report := some rep1 } })
          ∨ s.writer.site = some .title ∧ r1 = { r with title := .exposed, titleReport := some rep1 }) →
        ∃ t, exec .lineEnd s = .next t
          ∧ t.index = { s.index with current := some r1 } ∧ t.writer.site = none
          ∧ t.writer.mode = (if s.comp.halts = [] then .idle else .held)
          ∧ ((∀ g ∈ r1.frames, g.kind = .index → g.state = .exposed ∨ g.state = .spoiled) → r1.title ≠ .pending →
              t.comp.sheet = .finishing ∧ (motionOp t = some .finishing ∨ Operation.finishing ∈ t.film.queue))
          ∧ ((∃ g ∈ r1.frames, g.kind = .index ∧ g.state ≠ .exposed ∧ g.state ≠ .spoiled) ∨ r1.title = .pending →
              t.comp.sheet = .indexing)
          ∧ t.docs = s.docs ∧ t.ports = s.ports ∧ t.dose = s.dose ∧ t.comp.cell = s.comp.cell
          ∧ t.store = { s.store with wait := none })
    ∧ (s.writer.line + 1 < s.writer.geometry.height → s.beam.inFlight = none → s.beam.waiting = [] →
      (s.writer.site = some .title
        ∨ ∃ (n : Nat) (f : FrameRec), s.writer.site = some (.frame n) ∧ r.frames[n]? = some f
          ∧ (f.ref = none ∨ ∃ x pg, f.ref = some x ∧ tableGet s.store.pages x.page = some pg
              ∧ pageMapped pg = true ∧ missingRow pg (s.writer.line + 1) = none)) →
      ∃ t, exec .lineEnd s = .next t
        ∧ t.writer.mode = .writing ∧ t.writer.phase = .dots ∧ t.writer.line = s.writer.line + 1
        ∧ t.writer.site = s.writer.site ∧ t.writer.pulses.length = s.writer.geometry.width
        ∧ t.writer.lineStart = max s.now (s.writer.retraceStart + 400) ∧ t.dose.frame = s.dose.frame
        ∧ (∀ reading, s.writer.lineP = some reading → SettingsInRange s →
            (∀ n f x pg, s.writer.site = some (.frame n) → r.frames[n]? = some f → f.ref = some x →
              tableGet s.store.pages x.page = some pg → pg.depth = 1 ∨ pg.depth = 2 ∨ pg.depth = 4 ∨ pg.depth = 8) →
            ∃ saturated, LineIs s r (s.writer.line + 1) reading t.writer.pulses saturated
              ∧ t.writer.report = some { rep with saturated := min 65535 (rep.saturated + saturated) })
        ∧ t.docs = s.docs ∧ t.store = s.store ∧ t.comp.cell = s.comp.cell)
    ∧ (∀ (n : Nat) (f : FrameRec) (x : PageRef) (pg : Page), s.writer.line + 1 < s.writer.geometry.height →
      s.writer.site = some (.frame n) → r.frames[n]? = some f → f.kind ≠ .index → f.ref = some x →
      tableGet s.store.pages x.page = some pg → pageMapped pg = true → pg.rotation = .r0 →
      pg.received ≤ s.writer.line + 1 →
      ∃ t r', exec .lineEnd s = .next t
        ∧ t.writer.mode = .paused ∧ t.writer.line = s.writer.line + 1 ∧ t.writer.site = s.writer.site
        ∧ t.writer.pause = some ⟨max s.now (s.writer.retraceStart + 400), s.comp.pauseLimit⟩
        ∧ t.store.wait = some ⟨x.page, s.writer.line + 1⟩
        ∧ t.index.current = some r' ∧ r'.frames[n]? = some { f with state := .paused }
        ∧ t.ports = s.ports.set x.owner ((s.ports.get x.owner).raise
            (.rowsWanted x.page (s.writer.line + 1) pg.received))
        ∧ t.docs = s.docs ∧ t.store.pages = s.store.pages ∧ t.comp.cell = s.comp.cell)

/-- R31, R56, R116, R127, R128, R131, R181: PAUSE_TIMER_EXPIRY spoils the paused frame with cause PAUSE: its report is closed,
its page's spoil count rises, with the third spoil the page is LOST, before it a document that is not final has a retake
added, and the Writer has no frame in progress: it is IDLE, or HELD when the halt list holds a cause. FRAME_SPOILED goes to the page's owner. The halt list is unchanged. The clock is that of log entry 7. -/
def Obligations.PauseExpirySpoilsTheFrame : Prop :=
  ∀ (s : State) (r : SheetRec) (n : Nat) (f : FrameRec) (x : PageRef) (d : Doc) (y : Nat × PageMark) (rep : Report)
    (p0 : PauseTimer),
    s.writer.mode = .paused → s.writer.pause = some p0 → s.writer.site = some (.frame n) →
    s.writer.report = some rep → s.index.current = some r → r.frames[n]? = some f → f.kind ≠ .index →
    f.ref = some x → docOf s x.doc = some d → d.pages[x.index - 1]? = some y →
    s.comp.sheet ≠ .idle →
    ∃ t r', exec .pauseTimerExpiry s = .next t
      ∧ t.now = max s.now (p0.since + p0.limit * 100000000)
      ∧ t.writer.site = none ∧ t.writer.pause = none ∧ t.store.wait = none
      ∧ t.writer.mode = (if s.comp.halts = [] then .idle else .held)
      ∧ t.index.current = some r' ∧ r'.serial = r.serial
      ∧ r'.frames[n]? = some { f with
          state := .spoiled
          report := some { rep with isSaturated := decide (0 < rep.saturated), cause := some .pause } }
      ∧ docOf t x.doc = some { d with pages := d.pages.modify (x.index - 1) fun z =>
          (z.1, { spoils := y.2.spoils + 1, outcome := if 3 ≤ y.2.spoils + 1 then .lost else z.2.outcome }) }
      ∧ t.comp.retakes = s.comp.retakes ++
          (if 3 ≤ y.2.spoils + 1 ∨ d.state.isFinal = true then []
           else [⟨x.page, x.doc, x.owner, x.index, y.2.spoils + 1, r.serial, n⟩])
      ∧ t.ports = s.ports.set x.owner ((s.ports.get x.owner).raise (.frameSpoiled r.serial n x.doc x.index .pause
          (if 3 ≤ y.2.spoils + 1 then .pageLost else if d.state.isFinal then .neither else .retakeAdded)))
      ∧ t.comp.halts = s.comp.halts ∧ t.comp.cell = s.comp.cell ∧ t.store.pages = s.store.pages

/-! ## Beam Monitor (chapter 7) -/

/-- R137, R142, R143: MEASURE BEAM joins the requesters of the next measurement and its port stays BUSY. SET BEAM WINDOW
stores a floor index of at most 15 and a drift limit of 1 to 64, answers them with the floor and the return floor, and
neither measures nor judges. -/
def Obligations.BeamRequestsMeasureAndSet : Prop :=
  ∀ (s : State) (p : Port) (tag : Nat),
    (accepts s p .measureBeam → ∃ t, exec (.measureBeam p tag) s = .next t
      ∧ t = withBusy p (.measureBeam tag) { s with beam := { s.beam with
          waiting := t.beam.waiting, inFlight := t.beam.inFlight, serving := t.beam.serving } }
      ∧ (Requester.port p ∈ t.beam.waiting ∨ Requester.port p ∈ t.beam.serving ∧ t.beam.inFlight ≠ none)
      ∧ (s.beam.inFlight ≠ none → t.beam.inFlight = s.beam.inFlight ∧ t.beam.serving = s.beam.serving)
      ∧ (s.beam.inFlight = none → s.writer.mode ≠ .writing → t.beam.inFlight = some s.now))
    ∧ (accepts s p .setBeamWindow → ∀ f d : Nat,
      exec (.setBeamWindow p tag f d) s =
        .next (withReply p 0x9A tag .ok
          (u8 (min 15 f) ++ u16 (512 + 32 * min 15 f) ++ u16 (528 + 32 * min 15 f) ++ u8 (max 1 (min 64 d)))
          { s with beam := { s.beam with floorIndex := min 15 f, drift := max 1 (min 64 d) } }))

/-- R23, R116, R136, R137, R140, R142, R144, R145: MEASUREMENT_COMPLETE for ports that measure: the power, at most 2047, is the last reading and
is judged under the window; each port is answered and IDLE; the requests that joined meanwhile begin the next
measurement. A RESUME that waits for it, with BEAM in the halt list, is answered OK when the reading is IN_WINDOW, and
BEAM leaves the list, with RESUMED and a HELD Writer IDLE when the list becomes empty; otherwise it is WRONG_STATE and the
list stays; IN_WINDOW with BEAM gone from the list already it is OK and the list stays. All carry the reading and the beam
state. One measurement answers all its ports, in every state of the Writer, and the Writer with them, which latches a
retrace sample IN_WINDOW and gives up its frame on a sample out of window. A Writer that it does not answer stays as it
is; but where its line waits for the measurement, and no other request does, the dots of that line begin (R145). The judgement (R139, R140): below the floor OUT_LOW, above 1536 OUT_HIGH; between them IN_WINDOW, but after
OUT_LOW and OUT_HIGH a reading below the return floor is OUT_LOW and one above 1520 is OUT_HIGH. The clock and the two
lists of requesters are log entries 7 and 12. -/
def Obligations.MeasurementAnswersItsRequesters : Prop :=
  (∀ (index p : Nat) (before : BeamState),
    (p < 512 + 32 * index → judgeBeam index before p = .outLow)
    ∧ (512 + 32 * index ≤ p → 1536 < p → judgeBeam index before p = .outHigh)
    ∧ (512 + 32 * index ≤ p → p ≤ 1536 → before = .unknown ∨ before = .inWindow →
        judgeBeam index before p = .inWindow)
    ∧ (512 + 32 * index ≤ p → p ≤ 1536 → before = .outLow ∨ before = .outHigh →
        (p < 528 + 32 * index → judgeBeam index before p = .outLow)
        ∧ (528 + 32 * index ≤ p → 1520 < p → judgeBeam index before p = .outHigh)
        ∧ (528 + 32 * index ≤ p → p ≤ 1520 → judgeBeam index before p = .inWindow)))
  ∧ (∀ (s : State) (t0 power reading tag : Nat) (p : Port) (after : BeamState) (body : List Byte) (base : State),
    s.beam.inFlight = some t0 → s.beam.serving = [.port p] → (s.ports.get p).busy = some (.resumeBeam tag) →
    s.writer.mode ≠ .writing → writerMapped s = true → reading = min power 2047 →
    after = judgeBeam s.beam.floorIndex s.beam.state reading →
    body = u16 reading ++ [BitVec.ofNat 8 (beamStateCode after)] →
    base = { s with
      now := max s.now (t0 + 200)
      ports := s.ports.set p { s.ports.get p with busy := none }
      beam := { s.beam with
        state := after, last := some reading, waiting := [], serving := s.beam.waiting
        inFlight := if s.beam.waiting = [] then none else some (max s.now (t0 + 200)) } } →
    ∃ t, exec (.measurementComplete power) s = .next t
      ∧ (t.ports.get p).busy = none
      ∧ (after = .inWindow → HaltCause.beam ∈ s.comp.halts → HaltCause.beam ∉ t.comp.halts
          ∧ SettledFrom (withReply p 0x85 tag .ok body (withoutCause .beam base)) t)
      ∧ (after = .inWindow → HaltCause.beam ∉ s.comp.halts → SettledFrom (withReply p 0x85 tag .ok body base) t)
      ∧ (after ≠ .inWindow → SettledFrom (withReply p 0x85 tag .wrongState body base) t))
  ∧ (∀ (s : State) (t0 power : Nat), s.beam.inFlight = some t0 → s.beam.serving.Nodup →
    (∀ q ∈ s.beam.serving, ∃ p tag, q = .port p ∧ (s.ports.get p).busy = some (.measureBeam tag)) →
    s.writer.mode ≠ .writing → writerMapped s = true →
    ∃ t, exec (.measurementComplete power) s = .next t
      ∧ t.beam.last = some (min power 2047)
      ∧ t.beam.state = judgeBeam s.beam.floorIndex s.beam.state (min power 2047)
      ∧ (∀ p tag, Requester.port p ∈ s.beam.serving → (s.ports.get p).busy = some (.measureBeam tag) →
          (t.ports.get p).busy = none
          ∧ lastReply t p = some ⟨0x99, tag, .ok,
              u16 (min power 2047) ++ u8 (beamStateCode t.beam.state) ++ u8 s.beam.floorIndex
                ++ u16 (512 + 32 * s.beam.floorIndex) ++ u8 s.beam.drift⟩)
      ∧ (s.beam.waiting ≠ [] → t.beam.serving = s.beam.waiting
          ∧ t.beam.inFlight = some (max s.now (t0 + 200)))
      ∧ t.now = max s.now (t0 + 200)
      ∧ t.docs = s.docs ∧ t.store = s.store ∧ t.comp.cell = s.comp.cell ∧ t.writer.site = s.writer.site
      ∧ t.dose.frame = s.dose.frame ∧ t.index.ring = s.index.ring)
  ∧ ∀ (s : State) (t0 power reading : Nat) (r : SheetRec) (after : BeamState), s.beam.inFlight = some t0 →
    s.beam.serving.Nodup → writerMapped s = true → s.index.current = some r → reading = min power 2047 →
    after = judgeBeam s.beam.floorIndex s.beam.state reading →
    ∃ t, exec (.measurementComplete power) s = .next t
      ∧ t.now = max s.now (t0 + 200) ∧ t.beam.last = some reading ∧ t.beam.state = after
      ∧ (∀ p : Port, Requester.port p ∈ s.beam.serving →
          (∀ tag, (s.ports.get p).busy = some (.measureBeam tag) → (t.ports.get p).busy = none
            ∧ lastReply t p = some ⟨0x99, tag, .ok, u16 reading ++ u8 (beamStateCode after) ++ u8 s.beam.floorIndex
                ++ u16 (512 + 32 * s.beam.floorIndex) ++ u8 s.beam.drift⟩)
          ∧ ∀ tag, (s.ports.get p).busy = some (.resumeBeam tag) → (t.ports.get p).busy = none
            ∧ lastReply t p = some ⟨0x85, tag, if after = .inWindow then .ok else .wrongState,
                u16 reading ++ u8 (beamStateCode after)⟩)
      ∧ (∀ p : Port, Requester.port p ∉ s.beam.serving →
          (t.ports.get p).busy = (s.ports.get p).busy ∧ (t.ports.get p).sent = (s.ports.get p).sent)
      ∧ (s.beam.waiting ≠ [] → t.beam.inFlight = some t.now ∧ ∀ q ∈ s.beam.waiting, q ≠ .writer → q ∈ t.beam.serving)
      ∧ (Requester.writer ∈ s.beam.serving → after = .inWindow → s.writer.sample = some .retrace →
          s.writer.mode = .writing → t.writer.lineP = some reading ∧ t.writer.sample = none
            ∧ t.writer.mode = .writing ∧ t.writer.phase = s.writer.phase ∧ t.writer.site = s.writer.site)
      ∧ (Requester.writer ∈ s.beam.serving → after ≠ .inWindow → s.writer.sample ≠ none →
          HaltCause.beam ∈ t.comp.halts ∧ t.writer.site = none)
      ∧ (Requester.writer ∉ s.beam.serving → s.writer.mode = .writing → s.writer.phase ≠ .due → t.writer = s.writer)
      ∧ (Requester.writer ∉ s.beam.serving → s.writer.mode = .writing → s.writer.phase = .due → s.beam.waiting = [] →
          s.writer.site ≠ none →
          (∀ n f x, s.writer.site = some (.frame n) → r.frames[n]? = some f → f.ref = some x →
            ∃ pg, tableGet s.store.pages x.page = some pg ∧ missingRow pg s.writer.line = none) →
          t.writer.mode = .writing ∧ t.writer.phase = .dots ∧ t.writer.line = s.writer.line
            ∧ t.writer.lineStart = t.now ∧ t.writer.pulses.length = s.writer.geometry.width)

/-- R19, R56, R79, R96, R99 to R106, R116, R120, R121, R123, R124, R126 to R128, R131, R132, R141, R181: the Writer's sample. A starting sample IN_WINDOW enters
WRITING at line 0 with the drift threshold computed from it, opens the report's readings, and begins the dots of line 0
when its page's rows have arrived; one out of window undoes the start: the frame is READY and BEAM is in the halt list. A
retrace sample IN_WINDOW is latched for the next line, enters the extremes and sets DRIFT when it differs from the start by
more than the threshold. Both samples act so at the title too. A resume sample IN_WINDOW does the same, and the paused frame is EXPOSING and goes on with its
line. A retrace or resume sample out of window spoils the frame with cause BEAM: its page's spoil count rises, with the
third spoil the page is LOST, before it a document that is not final has a retake added; FRAME_SPOILED goes to the owner,
and HALTED to every port unless BEAM stands in the halt list. In INDEXING the start of an index frame or of the title is
undone likewise, and out of window later it is spoiled with cause BEAM: it has no document, no retake and no FRAME_SPOILED,
and with the last site done the sheet passes to FINISHING. The clock (the moment at which the sample completes), the list
of the measurement in flight and the pulses, taken when the dots begin, are log entries 7, 12 and 24. With the settings in
their ranges those pulses are those of LineIs, as for LINE_END. -/
def Obligations.WriterActsOnItsSample : Prop :=
  (∀ (s : State) (t0 power n : Nat) (r : SheetRec) (f : FrameRec) (rep : Report),
    s.beam.inFlight = some t0 → s.beam.serving = [.writer] → s.beam.waiting = [] → writerMapped s = true →
    s.index.current = some r → s.writer.site = some (.frame n) → r.frames[n]? = some f →
    s.writer.report = some rep → power ≤ 2047 → s.comp.sheet ≠ .idle →
    (s.writer.sample = some .start → s.writer.mode = .moving →
      (f.ref = none ∨ ∃ x pg, f.ref = some x ∧ tableGet s.store.pages x.page = some pg ∧ missingRow pg 0 = none) →
      judgeBeam s.beam.floorIndex s.beam.state power = .inWindow →
      ∃ t, exec (.measurementComplete power) s = .next t
        ∧ t.writer.mode = .writing ∧ t.writer.line = 0 ∧ t.writer.lineP = some power ∧ t.writer.phase = .dots
        ∧ t.writer.threshold = power * s.writer.drift / 256 ∧ t.writer.sample = none
        ∧ (∃ rep', t.writer.report = some rep' ∧ rep'.pStart = power ∧ rep'.pMin = power ∧ rep'.pMax = power)
        ∧ (SettingsInRange s →
            (∀ x pg, f.ref = some x → tableGet s.store.pages x.page = some pg →
              pg.depth = 1 ∨ pg.depth = 2 ∨ pg.depth = 4 ∨ pg.depth = 8) →
            ∃ saturated, LineIs s r 0 power t.writer.pulses saturated
              ∧ (t.writer.report.map (·.saturated)) = some (min 65535 (rep.saturated + saturated)))
        ∧ t.beam.state = .inWindow ∧ t.docs = s.docs ∧ t.store = s.store ∧ t.comp.cell = s.comp.cell)
    ∧ (s.writer.sample = some .start → f.kind ≠ .index →
      judgeBeam s.beam.floorIndex s.beam.state power ≠ .inWindow →
      ∃ t r', exec (.measurementComplete power) s = .next t
        ∧ HaltCause.beam ∈ t.comp.halts ∧ t.writer.site = none ∧ t.writer.report = none
        ∧ t.index.current = some r' ∧ r'.frames[n]? = some { f with state := .ready }
        ∧ t.writer.mode = .held
        ∧ t.ports = (if HaltCause.beam ∈ s.comp.halts then s.ports
            else s.ports.map (PortRec.raise (.halted .beam)))
        ∧ t.docs = s.docs ∧ t.comp.retakes = s.comp.retakes ∧ t.comp.cell = s.comp.cell)
    ∧ (s.writer.sample = some .retrace → s.writer.mode = .writing →
      judgeBeam s.beam.floorIndex s.beam.state power = .inWindow →
      ∃ t, exec (.measurementComplete power) s = .next t
        ∧ t.writer = { s.writer with
            lineP := some power, sample := none
            report := some { rep with
              pMin := min rep.pMin power, pMax := max rep.pMax power
              isDrift := rep.isDrift || decide (s.writer.threshold < power - rep.pStart)
                || decide (s.writer.threshold < rep.pStart - power) } }
        ∧ t.beam.state = .inWindow ∧ t.docs = s.docs ∧ t.store = s.store ∧ t.comp.cell = s.comp.cell)
    ∧ (∀ x pg, s.writer.sample = some .resume → s.writer.mode = .paused → f.kind ≠ .index → f.ref = some x →
      tableGet s.store.pages x.page = some pg → missingRow pg s.writer.line = none →
      judgeBeam s.beam.floorIndex s.beam.state power = .inWindow →
      ∃ t r', exec (.measurementComplete power) s = .next t
        ∧ t.index.current = some r' ∧ r'.frames[n]? = some { f with state := .exposing }
        ∧ t.writer = { s.writer with
            mode := .writing, phase := .dots, lineP := some power, sample := none
            pulses := t.writer.pulses, lineStart := max s.now (t0 + 200)
            report := some { rep with
              pMin := min rep.pMin power, pMax := max rep.pMax power
              isDrift := rep.isDrift || decide (s.writer.threshold < power - rep.pStart)
                || decide (s.writer.threshold < rep.pStart - power)
              saturated := (t.writer.report.map (·.saturated)).getD 0 } }
        ∧ t.writer.pulses.length = s.writer.geometry.width
        ∧ (SettingsInRange s → pg.depth = 1 ∨ pg.depth = 2 ∨ pg.depth = 4 ∨ pg.depth = 8 →
            ∃ saturated, LineIs s r s.writer.line power t.writer.pulses saturated
              ∧ (t.writer.report.map (·.saturated)) = some (min 65535 (rep.saturated + saturated)))
        ∧ t.beam.state = .inWindow ∧ t.docs = s.docs ∧ t.store = s.store ∧ t.comp.cell = s.comp.cell)
    ∧ ∀ x d count outcome, s.writer.sample = some .retrace ∨ s.writer.sample = some .resume → f.kind ≠ .index →
      f.ref = some x → docOf s x.doc = some d →
      count = ((d.pages[x.index - 1]?).map (·.2.spoils)).getD 0 + 1 →
      outcome = (if 3 ≤ count then SpoilOutcome.pageLost else if d.state.isFinal then .neither else .retakeAdded) →
      judgeBeam s.beam.floorIndex s.beam.state power ≠ .inWindow →
      ∃ t r', exec (.measurementComplete power) s = .next t
        ∧ HaltCause.beam ∈ t.comp.halts ∧ t.writer.site = none
        ∧ t.index.current = some r' ∧ r'.serial = r.serial
        ∧ r'.frames[n]? = some { f with
            state := .spoiled
            report := some { rep with
              pMin := min rep.pMin power, pMax := max rep.pMax power
              isSaturated := decide (0 < rep.saturated), cause := some .beam } }
        ∧ t.writer.mode = .held
        ∧ docOf t x.doc = some (d.modPage x.index fun m =>
            { spoils := count, outcome := if 3 ≤ count then .lost else m.outcome })
        ∧ t.comp.retakes = s.comp.retakes ++ (if 3 ≤ count ∨ d.state.isFinal = true then []
            else [⟨x.page, x.doc, x.owner, x.index, count, r.serial, n⟩])
        ∧ (∀ ports : PerPort PortRec, ports = s.ports.set x.owner ((s.ports.get x.owner).raise
              (.frameSpoiled r.serial n x.doc x.index .beam outcome)) →
            t.ports = if HaltCause.beam ∈ s.comp.halts then ports else ports.map (PortRec.raise (.halted .beam)))
        ∧ (∀ h, h ≠ x.doc → docOf t h = docOf s h)
        ∧ t.store.pages = s.store.pages ∧ t.comp.cell = s.comp.cell)
  ∧ (∀ (s : State) (t0 power : Nat) (r : SheetRec) (rep : Report),
    s.beam.inFlight = some t0 → s.beam.serving = [.writer] → s.beam.waiting = [] → s.index.current = some r →
    s.writer.report = some rep → power ≤ 2047 → s.comp.sheet = .indexing →
    judgeBeam s.beam.floorIndex s.beam.state power ≠ .inWindow →
    (s.writer.sample = some .start →
      ∀ r1 : SheetRec,
      ((∃ (n : Nat) (f : FrameRec), s.writer.site = some (.frame n) ∧ r.frames[n]? = some f ∧ f.kind = .index
          ∧ f.ref = none ∧ r1 = { r with frames := r.frames.set n { f with state := .ready } })
        ∨ s.writer.site = some .title ∧ r.title = .pending ∧ r1 = r) →
      ∃ t, exec (.measurementComplete power) s = .next t
        ∧ t.index = { s.index with current := some r1 } ∧ HaltCause.beam ∈ t.comp.halts
        ∧ t.writer.site = none ∧ t.writer.report = none ∧ t.writer.mode = .held
        ∧ t.ports = (if HaltCause.beam ∈ s.comp.halts then s.ports
            else s.ports.map (PortRec.raise (.halted .beam)))
        ∧ t.comp.sheet = .indexing ∧ t.docs = s.docs ∧ t.comp.retakes = s.comp.retakes ∧ t.comp.cell = s.comp.cell)
    ∧ (s.writer.sample = some .retrace ∨ s.writer.sample = some .resume →
      ∀ (r1 : SheetRec) (rep1 : Report),
      rep1 = { rep with
        pMin := min rep.pMin power, pMax := max rep.pMax power
        isSaturated := decide (0 < rep.saturated), cause := some .beam } →
      ((∃ (n : Nat) (f : FrameRec), s.writer.site = some (.frame n) ∧ r.frames[n]? = some f ∧ f.kind = .index
          ∧ f.ref = none ∧ r1 = { r with frames := r.frames.set n { f with state := .spoiled, report := some rep1 } })
        ∨ s.writer.site = some .title ∧ r1 = { r with title := .spoiled, titleReport := some rep1 }) →
      ∃ t, exec (.measurementComplete power) s = .next t
        ∧ t.index = { s.index with current := some r1 } ∧ HaltCause.beam ∈ t.comp.halts
        ∧ t.writer.site = none ∧ t.writer.report = none ∧ t.writer.mode = .held
        ∧ t.ports = (if HaltCause.beam ∈ s.comp.halts then s.ports
            else s.ports.map (PortRec.raise (.halted .beam)))
        ∧ ((∀ g ∈ r1.frames, g.kind = .index → g.state = .exposed ∨ g.state = .spoiled) → r1.title ≠ .pending →
            t.comp.sheet = .finishing)
        ∧ ((∃ g ∈ r1.frames, g.kind = .index ∧ g.state ≠ .exposed ∧ g.state ≠ .spoiled) ∨ r1.title = .pending →
            t.comp.sheet = .indexing)
        ∧ t.docs = s.docs ∧ t.comp.retakes = s.comp.retakes ∧ t.comp.cell = s.comp.cell))
  ∧ ∀ (s : State) (t0 power : Nat) (r : SheetRec) (rep : Report),
    s.beam.inFlight = some t0 → s.beam.serving = [.writer] → s.beam.waiting = [] → s.index.current = some r →
    s.writer.report = some rep → power ≤ 2047 → s.comp.sheet = .indexing → s.writer.site = some .title →
    r.title = .pending → judgeBeam s.beam.floorIndex s.beam.state power = .inWindow →
    (s.writer.sample = some .start → s.writer.mode = .moving →
      ∃ t, exec (.measurementComplete power) s = .next t
        ∧ t.writer = { s.writer with
            mode := .writing, phase := .dots, line := 0, lineP := some power, sample := none
            threshold := power * s.writer.drift / 256, lineStart := max s.now (t0 + 200)
            pulses := t.writer.pulses
            report := some { rep with
              pStart := power, pMin := power, pMax := power
              saturated := (t.writer.report.map (·.saturated)).getD 0 } }
        ∧ t.writer.pulses.length = s.writer.geometry.width
        ∧ (SettingsInRange s → ∃ saturated, LineIs s r 0 power t.writer.pulses saturated
            ∧ (t.writer.report.map (·.saturated)) = some (min 65535 (rep.saturated + saturated)))
        ∧ t.index = s.index ∧ t.comp = s.comp ∧ t.ports = s.ports ∧ t.beam.state = .inWindow
        ∧ t.docs = s.docs ∧ t.store = s.store ∧ t.dose = s.dose)
    ∧ (s.writer.sample = some .retrace → s.writer.mode = .writing →
      ∃ t, exec (.measurementComplete power) s = .next t
        ∧ t.writer = { s.writer with
            lineP := some power, sample := none
            report := some { rep with
              pMin := min rep.pMin power, pMax := max rep.pMax power
              isDrift := rep.isDrift || decide (s.writer.threshold < power - rep.pStart)
                || decide (s.writer.threshold < rep.pStart - power) } }
        ∧ t.index = s.index ∧ t.comp = s.comp ∧ t.ports = s.ports ∧ t.beam.state = .inWindow
        ∧ t.docs = s.docs ∧ t.store = s.store ∧ t.dose = s.dose)

/-! ## Film Transport (chapter 8) -/

/-- R148, R150: LOAD FILM in UNLOADED with the film EMPTY, and in IDLE, stores the count and the factor within their
ranges and the lot code, and asks for the leader-in advance; elsewhere it is WRONG_STATE. UNLOAD FILM in IDLE sets the
count to 0 and asks for the leader-out advance; in UNLOADED it is NO_FILM, elsewhere WRONG_STATE. -/
def Obligations.FilmIsLoadedAndUnloaded : Prop :=
  ∀ (s : State) (p : Port) (tag : Nat),
    (accepts s p .loadFilm → ∀ (count factor : Nat) (lot : Text), lot.length = 8 →
      (s.comp.sheet = .unloaded ∧ s.film.film = .empty ∨ s.comp.sheet = .idle →
        ∃ t, exec (.loadFilm p tag count lot factor) s = .next t
          ∧ t.comp = { s.comp with sheet := .unloaded, exhausted := false }
          ∧ t.film.film = .loading ∧ t.film.count = max 1 (min 2000 count)
          ∧ t.film.factor = max 512 (min 2047 factor)
          ∧ t.film.lot = lot.map (fun b => if 0x20 ≤ b.toNat ∧ b.toNat ≤ 0x7E then b else 0x3F#8)
          ∧ lastReply t p = some ⟨0x9B, tag, .ok, u16 t.film.count ++ t.film.lot ++ u16 t.film.factor⟩
          ∧ (motionOp t = some .leaderIn ∨ Operation.leaderIn ∈ t.film.queue)
          ∧ t.docs = s.docs ∧ t.store = s.store ∧ t.dose = s.dose ∧ t.index = s.index)
      ∧ (s.comp.sheet ≠ .idle → s.comp.sheet ≠ .unloaded ∨ s.film.film ≠ .empty →
          exec (.loadFilm p tag count lot factor) s = .next (withReply p 0x9B tag .wrongState [] s)))
    ∧ (accepts s p .unloadFilm →
      (s.comp.sheet = .idle → ∃ t, exec (.unloadFilm p tag) s = .next t
        ∧ t.comp = { s.comp with sheet := .unloaded } ∧ t.film.film = .unloading ∧ t.film.count = 0
        ∧ lastReply t p = some ⟨0x9C, tag, .ok, []⟩
        ∧ (motionOp t = some .leaderOut ∨ Operation.leaderOut ∈ t.film.queue)
        ∧ t.film.lot = s.film.lot ∧ t.film.factor = s.film.factor
        ∧ t.docs = s.docs ∧ t.store = s.store ∧ t.dose = s.dose ∧ t.index = s.index)
      ∧ (s.comp.sheet = .unloaded → exec (.unloadFilm p tag) s = .next (withReply p 0x9C tag .noFilm [] s))
      ∧ (s.comp.sheet ≠ .idle → s.comp.sheet ≠ .unloaded →
          exec (.unloadFilm p tag) s = .next (withReply p 0x9C tag .wrongState [] s)))

/-- R2, R10, R108, R120, R137, R149 to R151, R154, R155, R158, R160, R181: motions complete. The leader-in advance: the film is LOADED
and the sheet state IDLE, from which a sheet opens when no halt stands and a port's cursor item is a document or a retake
waits whose page is COMPLETE: the film count falls by 1, at 10 FILM_LOW goes to every BUREAU port, the next serial and the sheet-scope settings are taken, the
record is created with every frame FREE, and the serial write begins. With the serials exhausted no sheet opens: SERIAL joins
the halt list with the exhausted mark, once per load of film. The leader-out advance: the film is EMPTY. A stage move: the stage stands at its site,
and a Writer that waits for the move asks for its starting sample, which waits for a measurement in flight. A homing: the stage is at HOME, the re-home flag is
clear and the gate is re-seated if it should hold the sheet. The motion has ended, and a film operation that was being
repeated has left the recovery record. -/
def Obligations.MotionsComplete : Prop :=
  ∀ s : State,
    (motionOp s = some .leaderIn → ∃ t, exec .leaderInAdvanceComplete s = .next t
      ∧ SettledFrom { s with
          film := { s.film with
            film := .loaded, motion := none
            heldOp := if s.film.heldOp = some .leaderIn then none else s.film.heldOp }
          comp := { s.comp with sheet := .idle } } t
      ∧ ((∃ (p : Port) (h : Nat), (s.docs.queues.get p).items[(s.docs.queues.get p).cursor]? = some (.doc h))
          ∨ (∃ x ∈ s.comp.retakes, ∃ pg, tableGet s.store.pages x.page = some pg ∧ pg.state = .complete) →
        s.comp.halts = [] → 99999999 < s.comp.nextSerial →
        t.comp.sheet = .idle ∧ t.comp.exhausted = true ∧ t.film.count = s.film.count ∧ t.index = s.index
          ∧ t.comp.nextSerial = s.comp.nextSerial ∧ t.comp.greatest = s.comp.greatest
          ∧ (s.comp.exhausted = false → t.comp.halts = [.serial]
              ∧ t.ports = s.ports.map (PortRec.raise (.halted .serial)))
          ∧ (s.comp.exhausted = true → t.comp.halts = [] ∧ t.ports = s.ports))
      ∧ ∀ l : Layout,
        (∃ (p : Port) (h : Nat), (s.docs.queues.get p).items[(s.docs.queues.get p).cursor]? = some (.doc h))
          ∨ (∃ x ∈ s.comp.retakes, ∃ pg, tableGet s.store.pages x.page = some pg ∧ pg.state = .complete) →
        s.comp.halts = [] → s.comp.layouts[s.comp.nextLayout]? = some l → s.comp.nextSerial ≤ 99999999 →
        t.comp.sheet = .opening ∧ t.comp.write = .writing ∧ t.comp.greatest = s.comp.nextSerial
          ∧ t.comp.nextSerial = s.comp.nextSerial + 1 ∧ t.film.count = s.film.count - 1 ∧ t.comp.halts = []
          ∧ (motionOp t = some .opening ∨ Operation.opening ∈ t.film.queue)
          ∧ t.dose.sheet = ⟨s.dose.bankSel, s.dose.response, s.film.factor⟩
          ∧ t.ports = (if s.film.count = 11 then
                s.ports.map fun x => if x.cls = .bureau then x.raise (.filmLow 10 s.film.lot) else x
              else s.ports)
          ∧ ∃ r, t.index.current = some r
            ∧ r = { r with
              serial := s.comp.nextSerial, layoutNo := s.comp.nextLayout, layout := l, lot := s.film.lot
              bank := s.dose.bankSel, status := .opened, reason := none, entries := [], revision := 0
              title := .pending, titleReport := none }
            ∧ r.frames.length = l.dataFrames + (l.frames - l.dataFrames)
            ∧ ∀ (n : Nat) (f : FrameRec), r.frames[n]? = some f →
                f = ⟨.free, if n < l.dataFrames then .data else .index, none, none⟩)
    ∧ (motionOp s = some .leaderOut → ∃ t, exec .leaderOutAdvanceComplete s = .next t
      ∧ SettledFrom { s with film := { s.film with
          film := .empty, motion := none
          heldOp := if s.film.heldOp = some .leaderOut then none else s.film.heldOp } } t)
    ∧ (∀ place live, motionOp s = some (.stageMove place live) →
      (live = false ∨ s.writer.mode ≠ .moving → ∃ t, exec .stageArrival s = .next t
        ∧ SettledFrom { s with film := { s.film with motion := none, stage := .atSite place } } t)
      ∧ (live = true → s.writer.mode = .moving → s.beam.inFlight = none → ∃ t, exec .stageArrival s = .next t
        ∧ t.writer.sample = some .start ∧ Requester.writer ∈ t.beam.serving ∧ t.beam.inFlight = some s.now
        ∧ SettledFrom { s with
            film := { s.film with motion := none, stage := .atSite place }
            writer := { s.writer with sample := some .start }
            beam := { s.beam with waiting := [], serving := t.beam.serving, inFlight := some s.now } } t)
      ∧ (live = true → s.writer.mode = .moving → s.beam.inFlight ≠ none → ∃ t, exec .stageArrival s = .next t
        ∧ t.writer.sample = some .start ∧ Requester.writer ∈ t.beam.waiting
        ∧ t.beam.inFlight = s.beam.inFlight ∧ t.beam.serving = s.beam.serving
        ∧ SettledFrom { s with
            film := { s.film with motion := none, stage := .atSite place }
            writer := { s.writer with sample := some .start }
            beam := { s.beam with waiting := t.beam.waiting } } t))
    ∧ (motionOp s = some .homing → ∃ t, exec .homingComplete s = .next t
      ∧ SettledFrom { s with film := { s.film with
          motion := none, stage := .home, rehome := false, clamped := s.film.gateDue } } t)

/-- R21, R25, R31, R56, R116, R131, R153, R156, R157, R181: faults of the transport. A stage move or homing that runs out of time, and a
loss of position, leave the stage LOST with STAGE in the halt list. A film operation that runs out of time is held for
repetition (but for an opening advance whose sheet has been aborted: a reading of R25 and R153, log entry 16), and a gate that releases is no longer clamped, with
TRANSPORT in the halt list. The frame in progress, if any, is SPOILED with cause STAGE, its report closed and its page's
accounts kept; with none, documents and frames stay as they are. The Writer is HELD after it. FRAME_SPOILED and HALTED are raised. The clock is that of
log entry 7; a move in motion that the Writer gives up is log entry 19; that a loss of position during a finishing advance
acts when it is taken, before the cut completes, is log entry 43. -/
def Obligations.TransportFaultsHalt : Prop :=
  ∀ s : State, (s.writer.site ≠ none → s.index.current ≠ none) →
    (∀ m : Motion, s.film.motion = some m → m.op.isFilm = false → ∃ t, exec .operationTimeout s = .next t
      ∧ t.now = max s.now (m.since + 40000000) ∧ t.film.stage = .lost ∧ t.film.motion = none
      ∧ FaultSpoils .stage .stage s t ∧ t.store.pages = s.store.pages ∧ t.comp.cell = s.comp.cell)
    ∧ (∀ m : Motion, s.film.motion = some m → m.op.isFilm = true →
      ∃ t, exec .operationTimeout s = .next t
      ∧ t.now = max s.now (m.since + 500000000) ∧ t.film.motion = none
      ∧ t.film.heldOp = (if m.op = .opening ∧ s.comp.sheet ≠ .opening then none else some m.op)
      ∧ FaultSpoils .stage .transport s t ∧ t.store.pages = s.store.pages ∧ t.comp.cell = s.comp.cell)
    ∧ (∃ t, exec .positionLoss s = .next t
      ∧ t.film.stage = .lost
      ∧ t.film.motion = (if (motionOp s).all Operation.isFilm then s.film.motion.map (fun m => { m with op := m.op.giveUp })
          else none)
      ∧ FaultSpoils .stage .stage s t ∧ t.store.pages = s.store.pages ∧ t.comp.cell = s.comp.cell)
    ∧ (s.film.gateDue = true → ∃ t, exec .gateRelease s = .next t
      ∧ t.film.clamped = false ∧ t.film.gateDue = true
      ∧ FaultSpoils .stage .transport s t ∧ t.store.pages = s.store.pages ∧ t.comp.cell = s.comp.cell)

/-! ## Index and title (chapter 9) -/

/-- R164, R168, R169, R171 to R173: SET TITLE stores a text of at most 32 bytes, each byte outside 0x20 to 0x7E as '?', and answers it; a
longer text is BAD_VALUE. At the entry to INDEXING the index pages and the title of the sheet are rendered from its entries as they stand: the
entries in frame order, 96 to a page in two columns under the two header lines; the title's first line carries the template
as it stands and the serial, its second the keys of the first and the last entry. -/
def Obligations.SetTitleStoresTheTemplate : Prop :=
  (∀ (s : State) (p : Port) (tag : Nat) (text stored : Text), accepts s p .setTitle →
    stored = text.map (fun b => if 0x20 ≤ b.toNat ∧ b.toNat ≤ 0x7E then b else 0x3F#8) →
    (text.length ≤ 32 → exec (.setTitle p tag text) s =
      .next (withReply p 0x9F tag .ok (u8 text.length ++ stored)
        { s with index := { s.index with template := stored } }))
    ∧ (32 < text.length → exec (.setTitle p tag text) s = .next (withReply p 0x9F tag .badValue [] s)))
  ∧ ∀ (s : State) (r : SheetRec), s.index.current = some r → ∃ x,
      (enterIndexing r s).index.rendered = some x ∧ x.title.head? = some (titleLine1 s.index.template r.serial)
      ∧ ∃ order : List Entry, order.Perm r.entries
        ∧ order.Pairwise (fun a b => firstFrameOf a ≤ firstFrameOf b)
        ∧ x.pages.length = r.layout.index
        ∧ (∀ (m : Nat) (page : List Text), x.pages[m]? = some page → page.length = 50
            ∧ page[0]? = some (padded 76 ([0x53#8, 0x48#8, 0x45#8, 0x45#8, 0x54#8, 0x20#8] ++ decimalDigits 8 r.serial))
            ∧ page[1]? = some (padded 76 ([0x50#8, 0x41#8, 0x47#8, 0x45#8, 0x20#8, BitVec.ofNat 8 (0x30 + (m + 1)),
                0x20#8, 0x4F#8, 0x46#8, 0x20#8, BitVec.ofNat 8 (0x30 + r.layout.index)]))
            ∧ ∀ y, 2 ≤ y → y < 50 → ∃ left right, page[y]? = some (left ++ right)
              ∧ SlotIs r order (96 * m + (y - 2)) left ∧ SlotIs r order (96 * m + (y + 46)) right)
        ∧ x.title = [padded 75 (s.index.template ++ (if s.index.template = [] then [] else [0x20#8])
              ++ decimalDigits 8 r.serial),
            padded 75 (match order.head?, order.getLast? with
              | some first, some last =>
                if order.length = 1 then first.key else first.key ++ [0x20#8, 0x54#8, 0x4F#8, 0x20#8] ++ last.key
              | _, _ => [])]

/-! ## Invariants -/

/-- R4, R28, R33, R52, R71 to R73, R77, R91, R160, R180: every invariant of Safety.lean holds right after reset, with the
reset values that log entries 4, 5, 10 and 11 choose. -/
def Obligations.InvariantsHoldAtReset : Prop :=
  StoreSound State.reset ∧ BlockMapAgrees State.reset ∧ QueuesSound State.reset ∧ WithinBounds State.reset
    ∧ SerialsRise State.reset ∧ EntriesFit State.reset ∧ SettingsInRange State.reset ∧ PulsesInSlot State.reset
    ∧ PhaseSound State.reset ∧ ReportOpen State.reset

/-- R71, R72, R76, R86: every step keeps the Image Store sound: the canonical form of the memory, the partition of the
2048 blocks among the free list and the row maps, the held counts and the block map. -/
def Obligations.StepsKeepTheStoreSound : Prop :=
  ∀ s t : State, StoreSound s → BlockMapAgrees s → step s = .next t → StoreSound t ∧ BlockMapAgrees t

/-- R33, R35: every step keeps the port queues sound. -/
def Obligations.StepsKeepTheQueuesSound : Prop :=
  ∀ s t : State, QueuesSound s → step s = .next t → QueuesSound t

/-- R21, R28, R33, R52, R77, R137, R160, R180: every step keeps the notice queues, the port queues, the document table, the
quotas, the halt list, the two lists of requesters and the ring within their bounds, and the entries of every sheet record
within the index capacity of its layout. -/
def Obligations.StepsKeepTheBounds : Prop :=
  (∀ s t : State, WithinBounds s → step s = .next t → WithinBounds t)
  ∧ ∀ s t : State, EntriesFit s → step s = .next t → EntriesFit t

/-- R9, R160: every step keeps the serials in order. -/
def Obligations.StepsKeepTheSerialsRising : Prop :=
  ∀ s t : State, SerialsRise s → step s = .next t → SerialsRise t

/-- R4, R20, R91, R105, R112, R136, R146, R172: every step keeps the settings within their ranges and the pulses of the
line being written (log entry 24) within the modulator's limits. -/
def Obligations.StepsKeepSettingsAndPulsesInRange : Prop :=
  ∀ s t : State, SettingsInRange s → PulsesInSlot s → step s = .next t → SettingsInRange t ∧ PulsesInSlot t

/-- R1, R8, R115, R117, R119, R146, R160: every step keeps the sheet state, the film, the transport, the sheet record and the
frame in progress in agreement, and the report of a frame in progress open. -/
def Obligations.StepsKeepThePhasesInAgreement : Prop :=
  (∀ s t : State, PhaseSound s → step s = .next t → PhaseSound t)
  ∧ ∀ s t : State, ReportOpen s → step s = .next t → ReportOpen t

/-- R71, log entry 32: with the Image Store sound no step stops. -/
def Obligations.SoundStoresNeverStop : Prop :=
  ∀ s : State, StoreSound s → ∃ t, step s = .next t

/-- R8: an EXPOSED, SPOILED or VOID frame does not change state again on its sheet, and keeps its report: a data frame
always, an index frame from the entry to INDEXING on, before which it is FREE. -/
def Obligations.OutcomesOfFramesAreFinal : Prop :=
  ∀ (s t : State) (r r' : SheetRec) (n : Nat) (f : FrameRec), PhaseSound s → SerialsRise s → step s = .next t →
    s.index.current = some r → t.index.current = some r' → r'.serial = r.serial → r.frames[n]? = some f →
    f.kind ≠ .index ∨ s.comp.sheet = .indexing ∨ s.comp.sheet = .finishing → f.state.isOutcome = true →
    ∃ f', r'.frames[n]? = some f' ∧ f'.state = f.state ∧ f'.report = f.report ∧ f'.ref = f.ref

/-- R9: the serial in the cell never falls, and a sheet that enters the stage carries a serial above every serial taken
before. -/
def Obligations.SerialsAreNotReused : Prop :=
  ∀ s t : State, SerialsRise s → step s = .next t →
    s.comp.cell ≤ t.comp.cell
    ∧ ∀ r, t.index.current = some r →
        (∃ r0, s.index.current = some r0 ∧ r0.serial = r.serial) ∨ s.comp.greatest < r.serial
end

