-- ==== Sys2Proof/Laws/State.lean ====
section
/-! SUPPORT. Record updates of State: for each plain update of the model, every field that it leaves as it was, each
a simp lemma true by rfl; and the same for the values held per port. No proof need unfold one of these updates. -/

namespace Sys2Proof

/-- Reading a port's value after setting one. -/
theorem PerPort.get_set {α : Type} (x : PerPort α) (p q : Port) (v : α) :
    (x.set p v).get q = if q = p then v else x.get q := by
  cases p <;> cases q <;> rfl

/-- Reading the value of the port that was set. -/
@[simp] theorem PerPort.get_set_same {α : Type} (x : PerPort α) (p : Port) (v : α) : (x.set p v).get p = v := by
  cases p <;> rfl

/-- Reading the value of another port. -/
@[simp] theorem PerPort.get_set_other {α : Type} (x : PerPort α) {p q : Port} (v : α) (h : q ≠ p) :
    (x.set p v).get q = x.get q := by
  rw [PerPort.get_set, if_neg h]

/-- Reading a port's value after a change of every value. -/
@[simp] theorem PerPort.get_map {α β : Type} (f : α → β) (x : PerPort α) (q : Port) :
    (x.map f).get q = f (x.get q) := by
  cases q <;> rfl

/-- The same value everywhere. -/
@[simp] theorem Machine.everyPort_get {α : Type} (x : α) (q : Port) : (Machine.everyPort x).get q = x := by
  cases q <;> rfl

/-- A view of a port's value that the new value shares is left as it was. -/
theorem PerPort.get_set_keep {α β : Type} (g : α → β) (x : PerPort α) (p q : Port) (v : α)
    (h : g v = g (x.get p)) : g ((x.set p v).get q) = g (x.get q) := by
  rw [PerPort.get_set]
  split
  · next e => rw [h, e]
  · rfl

namespace Machine

/-- A view of the state that each step of a fold keeps is kept by the fold. -/
theorem foldl_keep {σ α β : Type} {f : σ → α → σ} {g : σ → β} (h : ∀ s a, g (f s a) = g s) :
    ∀ (l : List α) (s : σ), g (l.foldl f s) = g s
  | [], _ => rfl
  | a :: l, s => (foldl_keep h l (f s a)).trans (h s a)

/-! ## What the updates write -/

@[simp] theorem modPort_get (p : Port) (f : PortRec → PortRec) (s : State) :
    (modPort p f s).ports.get p = f (s.ports.get p) := PerPort.get_set_same _ _ _

@[simp] theorem modPort_get_other {p q : Port} (f : PortRec → PortRec) (s : State) (h : q ≠ p) :
    (modPort p f s).ports.get q = s.ports.get q := PerPort.get_set_other _ _ h

@[simp] theorem modCurrent_current (f : SheetRec → SheetRec) (s : State) :
    (modCurrent f s).index.current = s.index.current.map f := rfl

@[simp] theorem modDoc_table (h : Nat) (f : Doc → Doc) (s : State) :
    (modDoc h f s).docs.table = tableModify f s.docs.table h := rfl

@[simp] theorem modQueue_queues (p : Port) (f : Queue → Queue) (s : State) :
    (modQueue p f s).docs.queues = s.docs.queues.set p (f (s.docs.queues.get p)) := rfl

@[simp] theorem setAttached_pages (doc : Option Nat) (h : Nat) (s : State) :
    (setAttached doc h s).store.pages = tableModify (fun pg => { pg with attached := doc }) s.store.pages h := rfl

@[simp] theorem setHeld_heldFlags (p : Port) (b : Bool) (s : State) :
    (setHeld p b s).comp.heldFlags = s.comp.heldFlags.set p b := rfl

@[simp] theorem clearHeld_heldFlags (s : State) : (clearHeld s).comp.heldFlags = everyPort false := rfl

@[simp] theorem setRun_run (r : Option ArbRun) (s : State) : (setRun r s).comp.run = r := rfl

@[simp] theorem modRun_run (f : ArbRun → ArbRun) (s : State) : (modRun f s).comp.run = s.comp.run.map f := rfl

@[simp] theorem modWriter_writer (f : Writer → Writer) (s : State) : (modWriter f s).writer = f s.writer := rfl

@[simp] theorem modDose_dose (f : DoseUnit → DoseUnit) (s : State) : (modDose f s).dose = f s.dose := rfl

@[simp] theorem enqueueOp_queue (op : Operation) (s : State) :
    (enqueueOp op s).film.queue = s.film.queue ++ [op] := rfl

@[simp] theorem startMotion_motion (op : Operation) (s : State) :
    (startMotion op s).film.motion = some ⟨op, s.now⟩ := rfl

@[simp] theorem endMotion_motion (s : State) : (endMotion s).film.motion = none := rfl

@[simp] theorem reach_now (t : Nat) (s : State) : (reach t s).now = max s.now t := rfl

/-! ## What the updates leave -/

@[simp] theorem modPort_now (p : Port) (f : PortRec → PortRec) (s : State) : (modPort p f s).now = s.now := rfl
@[simp] theorem modPort_choices (p : Port) (f : PortRec → PortRec) (s : State) :
    (modPort p f s).choices = s.choices := rfl
@[simp] theorem modPort_pending (p : Port) (f : PortRec → PortRec) (s : State) :
    (modPort p f s).pending = s.pending := rfl
@[simp] theorem modPort_docs (p : Port) (f : PortRec → PortRec) (s : State) : (modPort p f s).docs = s.docs := rfl
@[simp] theorem modPort_store (p : Port) (f : PortRec → PortRec) (s : State) : (modPort p f s).store = s.store := rfl
@[simp] theorem modPort_comp (p : Port) (f : PortRec → PortRec) (s : State) : (modPort p f s).comp = s.comp := rfl
@[simp] theorem modPort_dose (p : Port) (f : PortRec → PortRec) (s : State) : (modPort p f s).dose = s.dose := rfl
@[simp] theorem modPort_writer (p : Port) (f : PortRec → PortRec) (s : State) :
    (modPort p f s).writer = s.writer := rfl
@[simp] theorem modPort_beam (p : Port) (f : PortRec → PortRec) (s : State) : (modPort p f s).beam = s.beam := rfl
@[simp] theorem modPort_film (p : Port) (f : PortRec → PortRec) (s : State) : (modPort p f s).film = s.film := rfl
@[simp] theorem modPort_index (p : Port) (f : PortRec → PortRec) (s : State) : (modPort p f s).index = s.index := rfl

@[simp] theorem notify_now (p : Port) (n : Notice) (s : State) : (notify p n s).now = s.now := rfl
@[simp] theorem notify_choices (p : Port) (n : Notice) (s : State) : (notify p n s).choices = s.choices := rfl
@[simp] theorem notify_pending (p : Port) (n : Notice) (s : State) : (notify p n s).pending = s.pending := rfl
@[simp] theorem notify_docs (p : Port) (n : Notice) (s : State) : (notify p n s).docs = s.docs := rfl
@[simp] theorem notify_store (p : Port) (n : Notice) (s : State) : (notify p n s).store = s.store := rfl
@[simp] theorem notify_comp (p : Port) (n : Notice) (s : State) : (notify p n s).comp = s.comp := rfl
@[simp] theorem notify_dose (p : Port) (n : Notice) (s : State) : (notify p n s).dose = s.dose := rfl
@[simp] theorem notify_writer (p : Port) (n : Notice) (s : State) : (notify p n s).writer = s.writer := rfl
@[simp] theorem notify_beam (p : Port) (n : Notice) (s : State) : (notify p n s).beam = s.beam := rfl
@[simp] theorem notify_film (p : Port) (n : Notice) (s : State) : (notify p n s).film = s.film := rfl
@[simp] theorem notify_index (p : Port) (n : Notice) (s : State) : (notify p n s).index = s.index := rfl

@[simp] theorem notifyAll_now (n : Notice) (s : State) : (notifyAll n s).now = s.now := rfl
@[simp] theorem notifyAll_choices (n : Notice) (s : State) : (notifyAll n s).choices = s.choices := rfl
@[simp] theorem notifyAll_pending (n : Notice) (s : State) : (notifyAll n s).pending = s.pending := rfl
@[simp] theorem notifyAll_docs (n : Notice) (s : State) : (notifyAll n s).docs = s.docs := rfl
@[simp] theorem notifyAll_store (n : Notice) (s : State) : (notifyAll n s).store = s.store := rfl
@[simp] theorem notifyAll_comp (n : Notice) (s : State) : (notifyAll n s).comp = s.comp := rfl
@[simp] theorem notifyAll_dose (n : Notice) (s : State) : (notifyAll n s).dose = s.dose := rfl
@[simp] theorem notifyAll_writer (n : Notice) (s : State) : (notifyAll n s).writer = s.writer := rfl
@[simp] theorem notifyAll_beam (n : Notice) (s : State) : (notifyAll n s).beam = s.beam := rfl
@[simp] theorem notifyAll_film (n : Notice) (s : State) : (notifyAll n s).film = s.film := rfl
@[simp] theorem notifyAll_index (n : Notice) (s : State) : (notifyAll n s).index = s.index := rfl

@[simp] theorem notifyBureau_now (n : Notice) (s : State) : (notifyBureau n s).now = s.now := rfl
@[simp] theorem notifyBureau_choices (n : Notice) (s : State) : (notifyBureau n s).choices = s.choices := rfl
@[simp] theorem notifyBureau_pending (n : Notice) (s : State) : (notifyBureau n s).pending = s.pending := rfl
@[simp] theorem notifyBureau_docs (n : Notice) (s : State) : (notifyBureau n s).docs = s.docs := rfl
@[simp] theorem notifyBureau_store (n : Notice) (s : State) : (notifyBureau n s).store = s.store := rfl
@[simp] theorem notifyBureau_comp (n : Notice) (s : State) : (notifyBureau n s).comp = s.comp := rfl
@[simp] theorem notifyBureau_dose (n : Notice) (s : State) : (notifyBureau n s).dose = s.dose := rfl
@[simp] theorem notifyBureau_writer (n : Notice) (s : State) : (notifyBureau n s).writer = s.writer := rfl
@[simp] theorem notifyBureau_beam (n : Notice) (s : State) : (notifyBureau n s).beam = s.beam := rfl
@[simp] theorem notifyBureau_film (n : Notice) (s : State) : (notifyBureau n s).film = s.film := rfl
@[simp] theorem notifyBureau_index (n : Notice) (s : State) : (notifyBureau n s).index = s.index := rfl

@[simp] theorem sendReply_now (p : Port) (r : Reply) (s : State) : (sendReply p r s).now = s.now := rfl
@[simp] theorem sendReply_choices (p : Port) (r : Reply) (s : State) : (sendReply p r s).choices = s.choices := rfl
@[simp] theorem sendReply_pending (p : Port) (r : Reply) (s : State) : (sendReply p r s).pending = s.pending := rfl
@[simp] theorem sendReply_docs (p : Port) (r : Reply) (s : State) : (sendReply p r s).docs = s.docs := rfl
@[simp] theorem sendReply_store (p : Port) (r : Reply) (s : State) : (sendReply p r s).store = s.store := rfl
@[simp] theorem sendReply_comp (p : Port) (r : Reply) (s : State) : (sendReply p r s).comp = s.comp := rfl
@[simp] theorem sendReply_dose (p : Port) (r : Reply) (s : State) : (sendReply p r s).dose = s.dose := rfl
@[simp] theorem sendReply_writer (p : Port) (r : Reply) (s : State) : (sendReply p r s).writer = s.writer := rfl
@[simp] theorem sendReply_beam (p : Port) (r : Reply) (s : State) : (sendReply p r s).beam = s.beam := rfl
@[simp] theorem sendReply_film (p : Port) (r : Reply) (s : State) : (sendReply p r s).film = s.film := rfl
@[simp] theorem sendReply_index (p : Port) (r : Reply) (s : State) : (sendReply p r s).index = s.index := rfl

@[simp] theorem answer_now (p : Port) (k : Kind) (tag : Nat) (status : Status) (body : List Byte) (s : State) :
    (answer p k tag status body s).now = s.now := rfl
@[simp] theorem answer_choices (p : Port) (k : Kind) (tag : Nat) (status : Status) (body : List Byte) (s : State) :
    (answer p k tag status body s).choices = s.choices := rfl
@[simp] theorem answer_pending (p : Port) (k : Kind) (tag : Nat) (status : Status) (body : List Byte) (s : State) :
    (answer p k tag status body s).pending = s.pending := rfl
@[simp] theorem answer_docs (p : Port) (k : Kind) (tag : Nat) (status : Status) (body : List Byte) (s : State) :
    (answer p k tag status body s).docs = s.docs := rfl
@[simp] theorem answer_store (p : Port) (k : Kind) (tag : Nat) (status : Status) (body : List Byte) (s : State) :
    (answer p k tag status body s).store = s.store := rfl
@[simp] theorem answer_comp (p : Port) (k : Kind) (tag : Nat) (status : Status) (body : List Byte) (s : State) :
    (answer p k tag status body s).comp = s.comp := rfl
@[simp] theorem answer_dose (p : Port) (k : Kind) (tag : Nat) (status : Status) (body : List Byte) (s : State) :
    (answer p k tag status body s).dose = s.dose := rfl
@[simp] theorem answer_writer (p : Port) (k : Kind) (tag : Nat) (status : Status) (body : List Byte) (s : State) :
    (answer p k tag status body s).writer = s.writer := rfl
@[simp] theorem answer_beam (p : Port) (k : Kind) (tag : Nat) (status : Status) (body : List Byte) (s : State) :
    (answer p k tag status body s).beam = s.beam := rfl
@[simp] theorem answer_film (p : Port) (k : Kind) (tag : Nat) (status : Status) (body : List Byte) (s : State) :
    (answer p k tag status body s).film = s.film := rfl
@[simp] theorem answer_index (p : Port) (k : Kind) (tag : Nat) (status : Status) (body : List Byte) (s : State) :
    (answer p k tag status body s).index = s.index := rfl

@[simp] theorem setBusy_now (p : Port) (r : InFlight) (s : State) : (setBusy p r s).now = s.now := rfl
@[simp] theorem setBusy_choices (p : Port) (r : InFlight) (s : State) : (setBusy p r s).choices = s.choices := rfl
@[simp] theorem setBusy_pending (p : Port) (r : InFlight) (s : State) : (setBusy p r s).pending = s.pending := rfl
@[simp] theorem setBusy_docs (p : Port) (r : InFlight) (s : State) : (setBusy p r s).docs = s.docs := rfl
@[simp] theorem setBusy_store (p : Port) (r : InFlight) (s : State) : (setBusy p r s).store = s.store := rfl
@[simp] theorem setBusy_comp (p : Port) (r : InFlight) (s : State) : (setBusy p r s).comp = s.comp := rfl
@[simp] theorem setBusy_dose (p : Port) (r : InFlight) (s : State) : (setBusy p r s).dose = s.dose := rfl
@[simp] theorem setBusy_writer (p : Port) (r : InFlight) (s : State) : (setBusy p r s).writer = s.writer := rfl
@[simp] theorem setBusy_beam (p : Port) (r : InFlight) (s : State) : (setBusy p r s).beam = s.beam := rfl
@[simp] theorem setBusy_film (p : Port) (r : InFlight) (s : State) : (setBusy p r s).film = s.film := rfl
@[simp] theorem setBusy_index (p : Port) (r : InFlight) (s : State) : (setBusy p r s).index = s.index := rfl

@[simp] theorem setIdle_now (p : Port) (s : State) : (setIdle p s).now = s.now := rfl
@[simp] theorem setIdle_choices (p : Port) (s : State) : (setIdle p s).choices = s.choices := rfl
@[simp] theorem setIdle_pending (p : Port) (s : State) : (setIdle p s).pending = s.pending := rfl
@[simp] theorem setIdle_docs (p : Port) (s : State) : (setIdle p s).docs = s.docs := rfl
@[simp] theorem setIdle_store (p : Port) (s : State) : (setIdle p s).store = s.store := rfl
@[simp] theorem setIdle_comp (p : Port) (s : State) : (setIdle p s).comp = s.comp := rfl
@[simp] theorem setIdle_dose (p : Port) (s : State) : (setIdle p s).dose = s.dose := rfl
@[simp] theorem setIdle_writer (p : Port) (s : State) : (setIdle p s).writer = s.writer := rfl
@[simp] theorem setIdle_beam (p : Port) (s : State) : (setIdle p s).beam = s.beam := rfl
@[simp] theorem setIdle_film (p : Port) (s : State) : (setIdle p s).film = s.film := rfl
@[simp] theorem setIdle_index (p : Port) (s : State) : (setIdle p s).index = s.index := rfl

@[simp] theorem modCurrent_now (f : SheetRec → SheetRec) (s : State) : (modCurrent f s).now = s.now := rfl
@[simp] theorem modCurrent_choices (f : SheetRec → SheetRec) (s : State) : (modCurrent f s).choices = s.choices := rfl
@[simp] theorem modCurrent_pending (f : SheetRec → SheetRec) (s : State) : (modCurrent f s).pending = s.pending := rfl
@[simp] theorem modCurrent_ports (f : SheetRec → SheetRec) (s : State) : (modCurrent f s).ports = s.ports := rfl
@[simp] theorem modCurrent_docs (f : SheetRec → SheetRec) (s : State) : (modCurrent f s).docs = s.docs := rfl
@[simp] theorem modCurrent_store (f : SheetRec → SheetRec) (s : State) : (modCurrent f s).store = s.store := rfl
@[simp] theorem modCurrent_comp (f : SheetRec → SheetRec) (s : State) : (modCurrent f s).comp = s.comp := rfl
@[simp] theorem modCurrent_dose (f : SheetRec → SheetRec) (s : State) : (modCurrent f s).dose = s.dose := rfl
@[simp] theorem modCurrent_writer (f : SheetRec → SheetRec) (s : State) : (modCurrent f s).writer = s.writer := rfl
@[simp] theorem modCurrent_beam (f : SheetRec → SheetRec) (s : State) : (modCurrent f s).beam = s.beam := rfl
@[simp] theorem modCurrent_film (f : SheetRec → SheetRec) (s : State) : (modCurrent f s).film = s.film := rfl
@[simp] theorem modCurrent_index_ring (f : SheetRec → SheetRec) (s : State) :
    (modCurrent f s).index.ring = s.index.ring := rfl
@[simp] theorem modCurrent_index_template (f : SheetRec → SheetRec) (s : State) :
    (modCurrent f s).index.template = s.index.template := rfl

@[simp] theorem freePage_now (h : Nat) (pg : Page) (s : State) : (freePage h pg s).now = s.now := rfl
@[simp] theorem freePage_choices (h : Nat) (pg : Page) (s : State) : (freePage h pg s).choices = s.choices := rfl
@[simp] theorem freePage_pending (h : Nat) (pg : Page) (s : State) : (freePage h pg s).pending = s.pending := rfl
@[simp] theorem freePage_ports (h : Nat) (pg : Page) (s : State) : (freePage h pg s).ports = s.ports := rfl
@[simp] theorem freePage_docs (h : Nat) (pg : Page) (s : State) : (freePage h pg s).docs = s.docs := rfl
@[simp] theorem freePage_store_memory (h : Nat) (pg : Page) (s : State) :
    (freePage h pg s).store.memory = s.store.memory := rfl
@[simp] theorem freePage_store_quota (h : Nat) (pg : Page) (s : State) :
    (freePage h pg s).store.quota = s.store.quota := rfl
@[simp] theorem freePage_comp (h : Nat) (pg : Page) (s : State) : (freePage h pg s).comp = s.comp := rfl
@[simp] theorem freePage_dose (h : Nat) (pg : Page) (s : State) : (freePage h pg s).dose = s.dose := rfl
@[simp] theorem freePage_writer (h : Nat) (pg : Page) (s : State) : (freePage h pg s).writer = s.writer := rfl
@[simp] theorem freePage_beam (h : Nat) (pg : Page) (s : State) : (freePage h pg s).beam = s.beam := rfl
@[simp] theorem freePage_film (h : Nat) (pg : Page) (s : State) : (freePage h pg s).film = s.film := rfl
@[simp] theorem freePage_index (h : Nat) (pg : Page) (s : State) : (freePage h pg s).index = s.index := rfl

@[simp] theorem setAttached_now (doc : Option Nat) (h : Nat) (s : State) : (setAttached doc h s).now = s.now := rfl
@[simp] theorem setAttached_choices (doc : Option Nat) (h : Nat) (s : State) :
    (setAttached doc h s).choices = s.choices := rfl
@[simp] theorem setAttached_pending (doc : Option Nat) (h : Nat) (s : State) :
    (setAttached doc h s).pending = s.pending := rfl
@[simp] theorem setAttached_ports (doc : Option Nat) (h : Nat) (s : State) :
    (setAttached doc h s).ports = s.ports := rfl
@[simp] theorem setAttached_docs (doc : Option Nat) (h : Nat) (s : State) : (setAttached doc h s).docs = s.docs := rfl
@[simp] theorem setAttached_store_memory (doc : Option Nat) (h : Nat) (s : State) :
    (setAttached doc h s).store.memory = s.store.memory := rfl
@[simp] theorem setAttached_store_freeList (doc : Option Nat) (h : Nat) (s : State) :
    (setAttached doc h s).store.freeList = s.store.freeList := rfl
@[simp] theorem setAttached_store_held (doc : Option Nat) (h : Nat) (s : State) :
    (setAttached doc h s).store.held = s.store.held := rfl
@[simp] theorem setAttached_store_quota (doc : Option Nat) (h : Nat) (s : State) :
    (setAttached doc h s).store.quota = s.store.quota := rfl
@[simp] theorem setAttached_comp (doc : Option Nat) (h : Nat) (s : State) : (setAttached doc h s).comp = s.comp := rfl
@[simp] theorem setAttached_dose (doc : Option Nat) (h : Nat) (s : State) : (setAttached doc h s).dose = s.dose := rfl
@[simp] theorem setAttached_writer (doc : Option Nat) (h : Nat) (s : State) :
    (setAttached doc h s).writer = s.writer := rfl
@[simp] theorem setAttached_beam (doc : Option Nat) (h : Nat) (s : State) : (setAttached doc h s).beam = s.beam := rfl
@[simp] theorem setAttached_film (doc : Option Nat) (h : Nat) (s : State) : (setAttached doc h s).film = s.film := rfl
@[simp] theorem setAttached_index (doc : Option Nat) (h : Nat) (s : State) :
    (setAttached doc h s).index = s.index := rfl

@[simp] theorem modDoc_now (h : Nat) (f : Doc → Doc) (s : State) : (modDoc h f s).now = s.now := rfl
@[simp] theorem modDoc_choices (h : Nat) (f : Doc → Doc) (s : State) : (modDoc h f s).choices = s.choices := rfl
@[simp] theorem modDoc_pending (h : Nat) (f : Doc → Doc) (s : State) : (modDoc h f s).pending = s.pending := rfl
@[simp] theorem modDoc_ports (h : Nat) (f : Doc → Doc) (s : State) : (modDoc h f s).ports = s.ports := rfl
@[simp] theorem modDoc_docs_queues (h : Nat) (f : Doc → Doc) (s : State) :
    (modDoc h f s).docs.queues = s.docs.queues := rfl
@[simp] theorem modDoc_store (h : Nat) (f : Doc → Doc) (s : State) : (modDoc h f s).store = s.store := rfl
@[simp] theorem modDoc_comp (h : Nat) (f : Doc → Doc) (s : State) : (modDoc h f s).comp = s.comp := rfl
@[simp] theorem modDoc_dose (h : Nat) (f : Doc → Doc) (s : State) : (modDoc h f s).dose = s.dose := rfl
@[simp] theorem modDoc_writer (h : Nat) (f : Doc → Doc) (s : State) : (modDoc h f s).writer = s.writer := rfl
@[simp] theorem modDoc_beam (h : Nat) (f : Doc → Doc) (s : State) : (modDoc h f s).beam = s.beam := rfl
@[simp] theorem modDoc_film (h : Nat) (f : Doc → Doc) (s : State) : (modDoc h f s).film = s.film := rfl
@[simp] theorem modDoc_index (h : Nat) (f : Doc → Doc) (s : State) : (modDoc h f s).index = s.index := rfl

@[simp] theorem modQueue_now (p : Port) (f : Queue → Queue) (s : State) : (modQueue p f s).now = s.now := rfl
@[simp] theorem modQueue_choices (p : Port) (f : Queue → Queue) (s : State) :
    (modQueue p f s).choices = s.choices := rfl
@[simp] theorem modQueue_pending (p : Port) (f : Queue → Queue) (s : State) :
    (modQueue p f s).pending = s.pending := rfl
@[simp] theorem modQueue_ports (p : Port) (f : Queue → Queue) (s : State) : (modQueue p f s).ports = s.ports := rfl
@[simp] theorem modQueue_docs_table (p : Port) (f : Queue → Queue) (s : State) :
    (modQueue p f s).docs.table = s.docs.table := rfl
@[simp] theorem modQueue_store (p : Port) (f : Queue → Queue) (s : State) : (modQueue p f s).store = s.store := rfl
@[simp] theorem modQueue_comp (p : Port) (f : Queue → Queue) (s : State) : (modQueue p f s).comp = s.comp := rfl
@[simp] theorem modQueue_dose (p : Port) (f : Queue → Queue) (s : State) : (modQueue p f s).dose = s.dose := rfl
@[simp] theorem modQueue_writer (p : Port) (f : Queue → Queue) (s : State) : (modQueue p f s).writer = s.writer := rfl
@[simp] theorem modQueue_beam (p : Port) (f : Queue → Queue) (s : State) : (modQueue p f s).beam = s.beam := rfl
@[simp] theorem modQueue_film (p : Port) (f : Queue → Queue) (s : State) : (modQueue p f s).film = s.film := rfl
@[simp] theorem modQueue_index (p : Port) (f : Queue → Queue) (s : State) : (modQueue p f s).index = s.index := rfl

@[simp] theorem setHeld_now (p : Port) (b : Bool) (s : State) : (setHeld p b s).now = s.now := rfl
@[simp] theorem setHeld_choices (p : Port) (b : Bool) (s : State) : (setHeld p b s).choices = s.choices := rfl
@[simp] theorem setHeld_pending (p : Port) (b : Bool) (s : State) : (setHeld p b s).pending = s.pending := rfl
@[simp] theorem setHeld_ports (p : Port) (b : Bool) (s : State) : (setHeld p b s).ports = s.ports := rfl
@[simp] theorem setHeld_docs (p : Port) (b : Bool) (s : State) : (setHeld p b s).docs = s.docs := rfl
@[simp] theorem setHeld_store (p : Port) (b : Bool) (s : State) : (setHeld p b s).store = s.store := rfl
@[simp] theorem setHeld_comp_sheet (p : Port) (b : Bool) (s : State) :
    (setHeld p b s).comp.sheet = s.comp.sheet := rfl
@[simp] theorem setHeld_comp_halts (p : Port) (b : Bool) (s : State) :
    (setHeld p b s).comp.halts = s.comp.halts := rfl
@[simp] theorem setHeld_comp_layouts (p : Port) (b : Bool) (s : State) :
    (setHeld p b s).comp.layouts = s.comp.layouts := rfl
@[simp] theorem setHeld_comp_nextLayout (p : Port) (b : Bool) (s : State) :
    (setHeld p b s).comp.nextLayout = s.comp.nextLayout := rfl
@[simp] theorem setHeld_comp_group (p : Port) (b : Bool) (s : State) :
    (setHeld p b s).comp.group = s.comp.group := rfl
@[simp] theorem setHeld_comp_pauseLimit (p : Port) (b : Bool) (s : State) :
    (setHeld p b s).comp.pauseLimit = s.comp.pauseLimit := rfl
@[simp] theorem setHeld_comp_completionLimit (p : Port) (b : Bool) (s : State) :
    (setHeld p b s).comp.completionLimit = s.comp.completionLimit := rfl
@[simp] theorem setHeld_comp_ageLimit (p : Port) (b : Bool) (s : State) :
    (setHeld p b s).comp.ageLimit = s.comp.ageLimit := rfl
@[simp] theorem setHeld_comp_starveClose (p : Port) (b : Bool) (s : State) :
    (setHeld p b s).comp.starveClose = s.comp.starveClose := rfl
@[simp] theorem setHeld_comp_nextSerial (p : Port) (b : Bool) (s : State) :
    (setHeld p b s).comp.nextSerial = s.comp.nextSerial := rfl
@[simp] theorem setHeld_comp_greatest (p : Port) (b : Bool) (s : State) :
    (setHeld p b s).comp.greatest = s.comp.greatest := rfl
@[simp] theorem setHeld_comp_cell (p : Port) (b : Bool) (s : State) : (setHeld p b s).comp.cell = s.comp.cell := rfl
@[simp] theorem setHeld_dose (p : Port) (b : Bool) (s : State) : (setHeld p b s).dose = s.dose := rfl
@[simp] theorem setHeld_writer (p : Port) (b : Bool) (s : State) : (setHeld p b s).writer = s.writer := rfl
@[simp] theorem setHeld_beam (p : Port) (b : Bool) (s : State) : (setHeld p b s).beam = s.beam := rfl
@[simp] theorem setHeld_film (p : Port) (b : Bool) (s : State) : (setHeld p b s).film = s.film := rfl
@[simp] theorem setHeld_index (p : Port) (b : Bool) (s : State) : (setHeld p b s).index = s.index := rfl

@[simp] theorem clearHeld_now (s : State) : (clearHeld s).now = s.now := rfl
@[simp] theorem clearHeld_choices (s : State) : (clearHeld s).choices = s.choices := rfl
@[simp] theorem clearHeld_pending (s : State) : (clearHeld s).pending = s.pending := rfl
@[simp] theorem clearHeld_ports (s : State) : (clearHeld s).ports = s.ports := rfl
@[simp] theorem clearHeld_docs (s : State) : (clearHeld s).docs = s.docs := rfl
@[simp] theorem clearHeld_store (s : State) : (clearHeld s).store = s.store := rfl
@[simp] theorem clearHeld_comp_sheet (s : State) : (clearHeld s).comp.sheet = s.comp.sheet := rfl
@[simp] theorem clearHeld_comp_halts (s : State) : (clearHeld s).comp.halts = s.comp.halts := rfl
@[simp] theorem clearHeld_comp_layouts (s : State) : (clearHeld s).comp.layouts = s.comp.layouts := rfl
@[simp] theorem clearHeld_comp_nextLayout (s : State) : (clearHeld s).comp.nextLayout = s.comp.nextLayout := rfl
@[simp] theorem clearHeld_comp_group (s : State) : (clearHeld s).comp.group = s.comp.group := rfl
@[simp] theorem clearHeld_comp_pauseLimit (s : State) : (clearHeld s).comp.pauseLimit = s.comp.pauseLimit := rfl
@[simp] theorem clearHeld_comp_completionLimit (s : State) :
    (clearHeld s).comp.completionLimit = s.comp.completionLimit := rfl
@[simp] theorem clearHeld_comp_ageLimit (s : State) : (clearHeld s).comp.ageLimit = s.comp.ageLimit := rfl
@[simp] theorem clearHeld_comp_starveClose (s : State) : (clearHeld s).comp.starveClose = s.comp.starveClose := rfl
@[simp] theorem clearHeld_comp_nextSerial (s : State) : (clearHeld s).comp.nextSerial = s.comp.nextSerial := rfl
@[simp] theorem clearHeld_comp_greatest (s : State) : (clearHeld s).comp.greatest = s.comp.greatest := rfl
@[simp] theorem clearHeld_comp_cell (s : State) : (clearHeld s).comp.cell = s.comp.cell := rfl
@[simp] theorem clearHeld_dose (s : State) : (clearHeld s).dose = s.dose := rfl
@[simp] theorem clearHeld_writer (s : State) : (clearHeld s).writer = s.writer := rfl
@[simp] theorem clearHeld_beam (s : State) : (clearHeld s).beam = s.beam := rfl
@[simp] theorem clearHeld_film (s : State) : (clearHeld s).film = s.film := rfl
@[simp] theorem clearHeld_index (s : State) : (clearHeld s).index = s.index := rfl

@[simp] theorem beginMeasurement_now (s : State) : (beginMeasurement s).now = s.now := rfl
@[simp] theorem beginMeasurement_choices (s : State) : (beginMeasurement s).choices = s.choices := rfl
@[simp] theorem beginMeasurement_pending (s : State) : (beginMeasurement s).pending = s.pending := rfl
@[simp] theorem beginMeasurement_ports (s : State) : (beginMeasurement s).ports = s.ports := rfl
@[simp] theorem beginMeasurement_docs (s : State) : (beginMeasurement s).docs = s.docs := rfl
@[simp] theorem beginMeasurement_store (s : State) : (beginMeasurement s).store = s.store := rfl
@[simp] theorem beginMeasurement_comp (s : State) : (beginMeasurement s).comp = s.comp := rfl
@[simp] theorem beginMeasurement_dose (s : State) : (beginMeasurement s).dose = s.dose := rfl
@[simp] theorem beginMeasurement_writer (s : State) : (beginMeasurement s).writer = s.writer := rfl
@[simp] theorem beginMeasurement_beam_state (s : State) : (beginMeasurement s).beam.state = s.beam.state := rfl
@[simp] theorem beginMeasurement_beam_floorIndex (s : State) :
    (beginMeasurement s).beam.floorIndex = s.beam.floorIndex := rfl
@[simp] theorem beginMeasurement_beam_drift (s : State) : (beginMeasurement s).beam.drift = s.beam.drift := rfl
@[simp] theorem beginMeasurement_film (s : State) : (beginMeasurement s).film = s.film := rfl
@[simp] theorem beginMeasurement_index (s : State) : (beginMeasurement s).index = s.index := rfl

@[simp] theorem withdraw_now (r : Requester) (s : State) : (withdraw r s).now = s.now := rfl
@[simp] theorem withdraw_choices (r : Requester) (s : State) : (withdraw r s).choices = s.choices := rfl
@[simp] theorem withdraw_pending (r : Requester) (s : State) : (withdraw r s).pending = s.pending := rfl
@[simp] theorem withdraw_ports (r : Requester) (s : State) : (withdraw r s).ports = s.ports := rfl
@[simp] theorem withdraw_docs (r : Requester) (s : State) : (withdraw r s).docs = s.docs := rfl
@[simp] theorem withdraw_store (r : Requester) (s : State) : (withdraw r s).store = s.store := rfl
@[simp] theorem withdraw_comp (r : Requester) (s : State) : (withdraw r s).comp = s.comp := rfl
@[simp] theorem withdraw_dose (r : Requester) (s : State) : (withdraw r s).dose = s.dose := rfl
@[simp] theorem withdraw_writer (r : Requester) (s : State) : (withdraw r s).writer = s.writer := rfl
@[simp] theorem withdraw_beam_state (r : Requester) (s : State) : (withdraw r s).beam.state = s.beam.state := rfl
@[simp] theorem withdraw_beam_floorIndex (r : Requester) (s : State) :
    (withdraw r s).beam.floorIndex = s.beam.floorIndex := rfl
@[simp] theorem withdraw_beam_drift (r : Requester) (s : State) : (withdraw r s).beam.drift = s.beam.drift := rfl
@[simp] theorem withdraw_film (r : Requester) (s : State) : (withdraw r s).film = s.film := rfl
@[simp] theorem withdraw_index (r : Requester) (s : State) : (withdraw r s).index = s.index := rfl

@[simp] theorem enqueueOp_now (op : Operation) (s : State) : (enqueueOp op s).now = s.now := rfl
@[simp] theorem enqueueOp_choices (op : Operation) (s : State) : (enqueueOp op s).choices = s.choices := rfl
@[simp] theorem enqueueOp_pending (op : Operation) (s : State) : (enqueueOp op s).pending = s.pending := rfl
@[simp] theorem enqueueOp_ports (op : Operation) (s : State) : (enqueueOp op s).ports = s.ports := rfl
@[simp] theorem enqueueOp_docs (op : Operation) (s : State) : (enqueueOp op s).docs = s.docs := rfl
@[simp] theorem enqueueOp_store (op : Operation) (s : State) : (enqueueOp op s).store = s.store := rfl
@[simp] theorem enqueueOp_comp (op : Operation) (s : State) : (enqueueOp op s).comp = s.comp := rfl
@[simp] theorem enqueueOp_dose (op : Operation) (s : State) : (enqueueOp op s).dose = s.dose := rfl
@[simp] theorem enqueueOp_writer (op : Operation) (s : State) : (enqueueOp op s).writer = s.writer := rfl
@[simp] theorem enqueueOp_beam (op : Operation) (s : State) : (enqueueOp op s).beam = s.beam := rfl
@[simp] theorem enqueueOp_film_film (op : Operation) (s : State) : (enqueueOp op s).film.film = s.film.film := rfl
@[simp] theorem enqueueOp_film_count (op : Operation) (s : State) : (enqueueOp op s).film.count = s.film.count := rfl
@[simp] theorem enqueueOp_film_lot (op : Operation) (s : State) : (enqueueOp op s).film.lot = s.film.lot := rfl
@[simp] theorem enqueueOp_film_factor (op : Operation) (s : State) :
    (enqueueOp op s).film.factor = s.film.factor := rfl
@[simp] theorem enqueueOp_film_gateDue (op : Operation) (s : State) :
    (enqueueOp op s).film.gateDue = s.film.gateDue := rfl
@[simp] theorem enqueueOp_index (op : Operation) (s : State) : (enqueueOp op s).index = s.index := rfl

@[simp] theorem startMotion_now (op : Operation) (s : State) : (startMotion op s).now = s.now := rfl
@[simp] theorem startMotion_choices (op : Operation) (s : State) : (startMotion op s).choices = s.choices := rfl
@[simp] theorem startMotion_pending (op : Operation) (s : State) : (startMotion op s).pending = s.pending := rfl
@[simp] theorem startMotion_ports (op : Operation) (s : State) : (startMotion op s).ports = s.ports := rfl
@[simp] theorem startMotion_docs (op : Operation) (s : State) : (startMotion op s).docs = s.docs := rfl
@[simp] theorem startMotion_store (op : Operation) (s : State) : (startMotion op s).store = s.store := rfl
@[simp] theorem startMotion_comp (op : Operation) (s : State) : (startMotion op s).comp = s.comp := rfl
@[simp] theorem startMotion_dose (op : Operation) (s : State) : (startMotion op s).dose = s.dose := rfl
@[simp] theorem startMotion_writer (op : Operation) (s : State) : (startMotion op s).writer = s.writer := rfl
@[simp] theorem startMotion_beam (op : Operation) (s : State) : (startMotion op s).beam = s.beam := rfl
@[simp] theorem startMotion_film_film (op : Operation) (s : State) : (startMotion op s).film.film = s.film.film := rfl
@[simp] theorem startMotion_film_count (op : Operation) (s : State) :
    (startMotion op s).film.count = s.film.count := rfl
@[simp] theorem startMotion_film_lot (op : Operation) (s : State) : (startMotion op s).film.lot = s.film.lot := rfl
@[simp] theorem startMotion_film_factor (op : Operation) (s : State) :
    (startMotion op s).film.factor = s.film.factor := rfl
@[simp] theorem startMotion_film_gateDue (op : Operation) (s : State) :
    (startMotion op s).film.gateDue = s.film.gateDue := rfl
@[simp] theorem startMotion_index (op : Operation) (s : State) : (startMotion op s).index = s.index := rfl

@[simp] theorem giveUpMoves_now (s : State) : (giveUpMoves s).now = s.now := rfl
@[simp] theorem giveUpMoves_choices (s : State) : (giveUpMoves s).choices = s.choices := rfl
@[simp] theorem giveUpMoves_pending (s : State) : (giveUpMoves s).pending = s.pending := rfl
@[simp] theorem giveUpMoves_ports (s : State) : (giveUpMoves s).ports = s.ports := rfl
@[simp] theorem giveUpMoves_docs (s : State) : (giveUpMoves s).docs = s.docs := rfl
@[simp] theorem giveUpMoves_store (s : State) : (giveUpMoves s).store = s.store := rfl
@[simp] theorem giveUpMoves_comp (s : State) : (giveUpMoves s).comp = s.comp := rfl
@[simp] theorem giveUpMoves_dose (s : State) : (giveUpMoves s).dose = s.dose := rfl
@[simp] theorem giveUpMoves_writer (s : State) : (giveUpMoves s).writer = s.writer := rfl
@[simp] theorem giveUpMoves_beam (s : State) : (giveUpMoves s).beam = s.beam := rfl
@[simp] theorem giveUpMoves_film_film (s : State) : (giveUpMoves s).film.film = s.film.film := rfl
@[simp] theorem giveUpMoves_film_count (s : State) : (giveUpMoves s).film.count = s.film.count := rfl
@[simp] theorem giveUpMoves_film_lot (s : State) : (giveUpMoves s).film.lot = s.film.lot := rfl
@[simp] theorem giveUpMoves_film_factor (s : State) : (giveUpMoves s).film.factor = s.film.factor := rfl
@[simp] theorem giveUpMoves_film_gateDue (s : State) : (giveUpMoves s).film.gateDue = s.film.gateDue := rfl
@[simp] theorem giveUpMoves_index (s : State) : (giveUpMoves s).index = s.index := rfl

@[simp] theorem endMotion_now (s : State) : (endMotion s).now = s.now := rfl
@[simp] theorem endMotion_choices (s : State) : (endMotion s).choices = s.choices := rfl
@[simp] theorem endMotion_pending (s : State) : (endMotion s).pending = s.pending := rfl
@[simp] theorem endMotion_ports (s : State) : (endMotion s).ports = s.ports := rfl
@[simp] theorem endMotion_docs (s : State) : (endMotion s).docs = s.docs := rfl
@[simp] theorem endMotion_store (s : State) : (endMotion s).store = s.store := rfl
@[simp] theorem endMotion_comp (s : State) : (endMotion s).comp = s.comp := rfl
@[simp] theorem endMotion_dose (s : State) : (endMotion s).dose = s.dose := rfl
@[simp] theorem endMotion_writer (s : State) : (endMotion s).writer = s.writer := rfl
@[simp] theorem endMotion_beam (s : State) : (endMotion s).beam = s.beam := rfl
@[simp] theorem endMotion_film_film (s : State) : (endMotion s).film.film = s.film.film := rfl
@[simp] theorem endMotion_film_count (s : State) : (endMotion s).film.count = s.film.count := rfl
@[simp] theorem endMotion_film_lot (s : State) : (endMotion s).film.lot = s.film.lot := rfl
@[simp] theorem endMotion_film_factor (s : State) : (endMotion s).film.factor = s.film.factor := rfl
@[simp] theorem endMotion_film_gateDue (s : State) : (endMotion s).film.gateDue = s.film.gateDue := rfl
@[simp] theorem endMotion_index (s : State) : (endMotion s).index = s.index := rfl

@[simp] theorem completeFilmOp_now (op : Operation) (s : State) : (completeFilmOp op s).now = s.now := rfl
@[simp] theorem completeFilmOp_choices (op : Operation) (s : State) : (completeFilmOp op s).choices = s.choices := rfl
@[simp] theorem completeFilmOp_pending (op : Operation) (s : State) : (completeFilmOp op s).pending = s.pending := rfl
@[simp] theorem completeFilmOp_ports (op : Operation) (s : State) : (completeFilmOp op s).ports = s.ports := rfl
@[simp] theorem completeFilmOp_docs (op : Operation) (s : State) : (completeFilmOp op s).docs = s.docs := rfl
@[simp] theorem completeFilmOp_store (op : Operation) (s : State) : (completeFilmOp op s).store = s.store := rfl
@[simp] theorem completeFilmOp_comp (op : Operation) (s : State) : (completeFilmOp op s).comp = s.comp := rfl
@[simp] theorem completeFilmOp_dose (op : Operation) (s : State) : (completeFilmOp op s).dose = s.dose := rfl
@[simp] theorem completeFilmOp_writer (op : Operation) (s : State) : (completeFilmOp op s).writer = s.writer := rfl
@[simp] theorem completeFilmOp_beam (op : Operation) (s : State) : (completeFilmOp op s).beam = s.beam := rfl
@[simp] theorem completeFilmOp_film_film (op : Operation) (s : State) :
    (completeFilmOp op s).film.film = s.film.film := rfl
@[simp] theorem completeFilmOp_film_count (op : Operation) (s : State) :
    (completeFilmOp op s).film.count = s.film.count := rfl
@[simp] theorem completeFilmOp_film_lot (op : Operation) (s : State) :
    (completeFilmOp op s).film.lot = s.film.lot := rfl
@[simp] theorem completeFilmOp_film_factor (op : Operation) (s : State) :
    (completeFilmOp op s).film.factor = s.film.factor := rfl
@[simp] theorem completeFilmOp_film_gateDue (op : Operation) (s : State) :
    (completeFilmOp op s).film.gateDue = s.film.gateDue := rfl
@[simp] theorem completeFilmOp_index (op : Operation) (s : State) : (completeFilmOp op s).index = s.index := rfl

@[simp] theorem testReadyFrames_now (p : FrameRec → Bool) (s : State) : (testReadyFrames p s).now = s.now := rfl
@[simp] theorem testReadyFrames_choices (p : FrameRec → Bool) (s : State) :
    (testReadyFrames p s).choices = s.choices := rfl
@[simp] theorem testReadyFrames_pending (p : FrameRec → Bool) (s : State) :
    (testReadyFrames p s).pending = s.pending := rfl
@[simp] theorem testReadyFrames_ports (p : FrameRec → Bool) (s : State) : (testReadyFrames p s).ports = s.ports := rfl
@[simp] theorem testReadyFrames_docs (p : FrameRec → Bool) (s : State) : (testReadyFrames p s).docs = s.docs := rfl
@[simp] theorem testReadyFrames_store (p : FrameRec → Bool) (s : State) : (testReadyFrames p s).store = s.store := rfl
@[simp] theorem testReadyFrames_comp (p : FrameRec → Bool) (s : State) : (testReadyFrames p s).comp = s.comp := rfl
@[simp] theorem testReadyFrames_dose (p : FrameRec → Bool) (s : State) : (testReadyFrames p s).dose = s.dose := rfl
@[simp] theorem testReadyFrames_writer (p : FrameRec → Bool) (s : State) :
    (testReadyFrames p s).writer = s.writer := rfl
@[simp] theorem testReadyFrames_beam (p : FrameRec → Bool) (s : State) : (testReadyFrames p s).beam = s.beam := rfl
@[simp] theorem testReadyFrames_film (p : FrameRec → Bool) (s : State) : (testReadyFrames p s).film = s.film := rfl
@[simp] theorem testReadyFrames_index_ring (p : FrameRec → Bool) (s : State) :
    (testReadyFrames p s).index.ring = s.index.ring := rfl
@[simp] theorem testReadyFrames_index_template (p : FrameRec → Bool) (s : State) :
    (testReadyFrames p s).index.template = s.index.template := rfl

@[simp] theorem enterClosing_now (reason : CloseReason) (s : State) : (enterClosing reason s).now = s.now := rfl
@[simp] theorem enterClosing_choices (reason : CloseReason) (s : State) :
    (enterClosing reason s).choices = s.choices := rfl
@[simp] theorem enterClosing_pending (reason : CloseReason) (s : State) :
    (enterClosing reason s).pending = s.pending := rfl
@[simp] theorem enterClosing_ports (reason : CloseReason) (s : State) : (enterClosing reason s).ports = s.ports := rfl
@[simp] theorem enterClosing_docs (reason : CloseReason) (s : State) : (enterClosing reason s).docs = s.docs := rfl
@[simp] theorem enterClosing_store (reason : CloseReason) (s : State) : (enterClosing reason s).store = s.store := rfl
@[simp] theorem enterClosing_comp_halts (reason : CloseReason) (s : State) :
    (enterClosing reason s).comp.halts = s.comp.halts := rfl
@[simp] theorem enterClosing_comp_layouts (reason : CloseReason) (s : State) :
    (enterClosing reason s).comp.layouts = s.comp.layouts := rfl
@[simp] theorem enterClosing_comp_nextLayout (reason : CloseReason) (s : State) :
    (enterClosing reason s).comp.nextLayout = s.comp.nextLayout := rfl
@[simp] theorem enterClosing_comp_group (reason : CloseReason) (s : State) :
    (enterClosing reason s).comp.group = s.comp.group := rfl
@[simp] theorem enterClosing_comp_pauseLimit (reason : CloseReason) (s : State) :
    (enterClosing reason s).comp.pauseLimit = s.comp.pauseLimit := rfl
@[simp] theorem enterClosing_comp_completionLimit (reason : CloseReason) (s : State) :
    (enterClosing reason s).comp.completionLimit = s.comp.completionLimit := rfl
@[simp] theorem enterClosing_comp_ageLimit (reason : CloseReason) (s : State) :
    (enterClosing reason s).comp.ageLimit = s.comp.ageLimit := rfl
@[simp] theorem enterClosing_comp_starveClose (reason : CloseReason) (s : State) :
    (enterClosing reason s).comp.starveClose = s.comp.starveClose := rfl
@[simp] theorem enterClosing_comp_nextSerial (reason : CloseReason) (s : State) :
    (enterClosing reason s).comp.nextSerial = s.comp.nextSerial := rfl
@[simp] theorem enterClosing_comp_greatest (reason : CloseReason) (s : State) :
    (enterClosing reason s).comp.greatest = s.comp.greatest := rfl
@[simp] theorem enterClosing_comp_cell (reason : CloseReason) (s : State) :
    (enterClosing reason s).comp.cell = s.comp.cell := rfl
@[simp] theorem enterClosing_dose (reason : CloseReason) (s : State) : (enterClosing reason s).dose = s.dose := rfl
@[simp] theorem enterClosing_writer (reason : CloseReason) (s : State) :
    (enterClosing reason s).writer = s.writer := rfl
@[simp] theorem enterClosing_beam (reason : CloseReason) (s : State) : (enterClosing reason s).beam = s.beam := rfl
@[simp] theorem enterClosing_film (reason : CloseReason) (s : State) : (enterClosing reason s).film = s.film := rfl
@[simp] theorem enterClosing_index_ring (reason : CloseReason) (s : State) :
    (enterClosing reason s).index.ring = s.index.ring := rfl
@[simp] theorem enterClosing_index_template (reason : CloseReason) (s : State) :
    (enterClosing reason s).index.template = s.index.template := rfl

@[simp] theorem setRun_now (r : Option ArbRun) (s : State) : (setRun r s).now = s.now := rfl
@[simp] theorem setRun_choices (r : Option ArbRun) (s : State) : (setRun r s).choices = s.choices := rfl
@[simp] theorem setRun_pending (r : Option ArbRun) (s : State) : (setRun r s).pending = s.pending := rfl
@[simp] theorem setRun_ports (r : Option ArbRun) (s : State) : (setRun r s).ports = s.ports := rfl
@[simp] theorem setRun_docs (r : Option ArbRun) (s : State) : (setRun r s).docs = s.docs := rfl
@[simp] theorem setRun_store (r : Option ArbRun) (s : State) : (setRun r s).store = s.store := rfl
@[simp] theorem setRun_comp_sheet (r : Option ArbRun) (s : State) : (setRun r s).comp.sheet = s.comp.sheet := rfl
@[simp] theorem setRun_comp_halts (r : Option ArbRun) (s : State) : (setRun r s).comp.halts = s.comp.halts := rfl
@[simp] theorem setRun_comp_layouts (r : Option ArbRun) (s : State) :
    (setRun r s).comp.layouts = s.comp.layouts := rfl
@[simp] theorem setRun_comp_nextLayout (r : Option ArbRun) (s : State) :
    (setRun r s).comp.nextLayout = s.comp.nextLayout := rfl
@[simp] theorem setRun_comp_group (r : Option ArbRun) (s : State) : (setRun r s).comp.group = s.comp.group := rfl
@[simp] theorem setRun_comp_pauseLimit (r : Option ArbRun) (s : State) :
    (setRun r s).comp.pauseLimit = s.comp.pauseLimit := rfl
@[simp] theorem setRun_comp_completionLimit (r : Option ArbRun) (s : State) :
    (setRun r s).comp.completionLimit = s.comp.completionLimit := rfl
@[simp] theorem setRun_comp_ageLimit (r : Option ArbRun) (s : State) :
    (setRun r s).comp.ageLimit = s.comp.ageLimit := rfl
@[simp] theorem setRun_comp_starveClose (r : Option ArbRun) (s : State) :
    (setRun r s).comp.starveClose = s.comp.starveClose := rfl
@[simp] theorem setRun_comp_nextSerial (r : Option ArbRun) (s : State) :
    (setRun r s).comp.nextSerial = s.comp.nextSerial := rfl
@[simp] theorem setRun_comp_greatest (r : Option ArbRun) (s : State) :
    (setRun r s).comp.greatest = s.comp.greatest := rfl
@[simp] theorem setRun_comp_cell (r : Option ArbRun) (s : State) : (setRun r s).comp.cell = s.comp.cell := rfl
@[simp] theorem setRun_dose (r : Option ArbRun) (s : State) : (setRun r s).dose = s.dose := rfl
@[simp] theorem setRun_writer (r : Option ArbRun) (s : State) : (setRun r s).writer = s.writer := rfl
@[simp] theorem setRun_beam (r : Option ArbRun) (s : State) : (setRun r s).beam = s.beam := rfl
@[simp] theorem setRun_film (r : Option ArbRun) (s : State) : (setRun r s).film = s.film := rfl
@[simp] theorem setRun_index (r : Option ArbRun) (s : State) : (setRun r s).index = s.index := rfl

@[simp] theorem enterIndexing_now (r : SheetRec) (s : State) : (enterIndexing r s).now = s.now := rfl
@[simp] theorem enterIndexing_choices (r : SheetRec) (s : State) : (enterIndexing r s).choices = s.choices := rfl
@[simp] theorem enterIndexing_pending (r : SheetRec) (s : State) : (enterIndexing r s).pending = s.pending := rfl
@[simp] theorem enterIndexing_ports (r : SheetRec) (s : State) : (enterIndexing r s).ports = s.ports := rfl
@[simp] theorem enterIndexing_docs (r : SheetRec) (s : State) : (enterIndexing r s).docs = s.docs := rfl
@[simp] theorem enterIndexing_store (r : SheetRec) (s : State) : (enterIndexing r s).store = s.store := rfl
@[simp] theorem enterIndexing_comp_run (r : SheetRec) (s : State) : (enterIndexing r s).comp.run = none := rfl
@[simp] theorem enterIndexing_comp_halts (r : SheetRec) (s : State) :
    (enterIndexing r s).comp.halts = s.comp.halts := rfl
@[simp] theorem enterIndexing_comp_layouts (r : SheetRec) (s : State) :
    (enterIndexing r s).comp.layouts = s.comp.layouts := rfl
@[simp] theorem enterIndexing_comp_nextLayout (r : SheetRec) (s : State) :
    (enterIndexing r s).comp.nextLayout = s.comp.nextLayout := rfl
@[simp] theorem enterIndexing_comp_group (r : SheetRec) (s : State) :
    (enterIndexing r s).comp.group = s.comp.group := rfl
@[simp] theorem enterIndexing_comp_pauseLimit (r : SheetRec) (s : State) :
    (enterIndexing r s).comp.pauseLimit = s.comp.pauseLimit := rfl
@[simp] theorem enterIndexing_comp_completionLimit (r : SheetRec) (s : State) :
    (enterIndexing r s).comp.completionLimit = s.comp.completionLimit := rfl
@[simp] theorem enterIndexing_comp_ageLimit (r : SheetRec) (s : State) :
    (enterIndexing r s).comp.ageLimit = s.comp.ageLimit := rfl
@[simp] theorem enterIndexing_comp_starveClose (r : SheetRec) (s : State) :
    (enterIndexing r s).comp.starveClose = s.comp.starveClose := rfl
@[simp] theorem enterIndexing_comp_nextSerial (r : SheetRec) (s : State) :
    (enterIndexing r s).comp.nextSerial = s.comp.nextSerial := rfl
@[simp] theorem enterIndexing_comp_greatest (r : SheetRec) (s : State) :
    (enterIndexing r s).comp.greatest = s.comp.greatest := rfl
@[simp] theorem enterIndexing_comp_cell (r : SheetRec) (s : State) :
    (enterIndexing r s).comp.cell = s.comp.cell := rfl
@[simp] theorem enterIndexing_dose (r : SheetRec) (s : State) : (enterIndexing r s).dose = s.dose := rfl
@[simp] theorem enterIndexing_writer (r : SheetRec) (s : State) : (enterIndexing r s).writer = s.writer := rfl
@[simp] theorem enterIndexing_beam (r : SheetRec) (s : State) : (enterIndexing r s).beam = s.beam := rfl
@[simp] theorem enterIndexing_film (r : SheetRec) (s : State) : (enterIndexing r s).film = s.film := rfl
@[simp] theorem enterIndexing_index_ring (r : SheetRec) (s : State) :
    (enterIndexing r s).index.ring = s.index.ring := rfl
@[simp] theorem enterIndexing_index_template (r : SheetRec) (s : State) :
    (enterIndexing r s).index.template = s.index.template := rfl

@[simp] theorem latchSheet_now (s : State) : (latchSheet s).now = s.now := rfl
@[simp] theorem latchSheet_choices (s : State) : (latchSheet s).choices = s.choices := rfl
@[simp] theorem latchSheet_pending (s : State) : (latchSheet s).pending = s.pending := rfl
@[simp] theorem latchSheet_ports (s : State) : (latchSheet s).ports = s.ports := rfl
@[simp] theorem latchSheet_docs (s : State) : (latchSheet s).docs = s.docs := rfl
@[simp] theorem latchSheet_store (s : State) : (latchSheet s).store = s.store := rfl
@[simp] theorem latchSheet_comp (s : State) : (latchSheet s).comp = s.comp := rfl
@[simp] theorem latchSheet_dose_gain (s : State) : (latchSheet s).dose.gain = s.dose.gain := rfl
@[simp] theorem latchSheet_dose_dotTime (s : State) : (latchSheet s).dose.dotTime = s.dose.dotTime := rfl
@[simp] theorem latchSheet_dose_response (s : State) : (latchSheet s).dose.response = s.dose.response := rfl
@[simp] theorem latchSheet_dose_frame (s : State) : (latchSheet s).dose.frame = s.dose.frame := rfl
@[simp] theorem latchSheet_writer (s : State) : (latchSheet s).writer = s.writer := rfl
@[simp] theorem latchSheet_beam (s : State) : (latchSheet s).beam = s.beam := rfl
@[simp] theorem latchSheet_film (s : State) : (latchSheet s).film = s.film := rfl
@[simp] theorem latchSheet_index (s : State) : (latchSheet s).index = s.index := rfl

@[simp] theorem modWriter_now (f : Writer → Writer) (s : State) : (modWriter f s).now = s.now := rfl
@[simp] theorem modWriter_choices (f : Writer → Writer) (s : State) : (modWriter f s).choices = s.choices := rfl
@[simp] theorem modWriter_pending (f : Writer → Writer) (s : State) : (modWriter f s).pending = s.pending := rfl
@[simp] theorem modWriter_ports (f : Writer → Writer) (s : State) : (modWriter f s).ports = s.ports := rfl
@[simp] theorem modWriter_docs (f : Writer → Writer) (s : State) : (modWriter f s).docs = s.docs := rfl
@[simp] theorem modWriter_store (f : Writer → Writer) (s : State) : (modWriter f s).store = s.store := rfl
@[simp] theorem modWriter_comp (f : Writer → Writer) (s : State) : (modWriter f s).comp = s.comp := rfl
@[simp] theorem modWriter_dose (f : Writer → Writer) (s : State) : (modWriter f s).dose = s.dose := rfl
@[simp] theorem modWriter_beam (f : Writer → Writer) (s : State) : (modWriter f s).beam = s.beam := rfl
@[simp] theorem modWriter_film (f : Writer → Writer) (s : State) : (modWriter f s).film = s.film := rfl
@[simp] theorem modWriter_index (f : Writer → Writer) (s : State) : (modWriter f s).index = s.index := rfl

@[simp] theorem modReport_now (f : Report → Report) (s : State) : (modReport f s).now = s.now := rfl
@[simp] theorem modReport_choices (f : Report → Report) (s : State) : (modReport f s).choices = s.choices := rfl
@[simp] theorem modReport_pending (f : Report → Report) (s : State) : (modReport f s).pending = s.pending := rfl
@[simp] theorem modReport_ports (f : Report → Report) (s : State) : (modReport f s).ports = s.ports := rfl
@[simp] theorem modReport_docs (f : Report → Report) (s : State) : (modReport f s).docs = s.docs := rfl
@[simp] theorem modReport_store (f : Report → Report) (s : State) : (modReport f s).store = s.store := rfl
@[simp] theorem modReport_comp (f : Report → Report) (s : State) : (modReport f s).comp = s.comp := rfl
@[simp] theorem modReport_dose (f : Report → Report) (s : State) : (modReport f s).dose = s.dose := rfl
@[simp] theorem modReport_writer_mode (f : Report → Report) (s : State) :
    (modReport f s).writer.mode = s.writer.mode := rfl
@[simp] theorem modReport_writer_site (f : Report → Report) (s : State) :
    (modReport f s).writer.site = s.writer.site := rfl
@[simp] theorem modReport_beam (f : Report → Report) (s : State) : (modReport f s).beam = s.beam := rfl
@[simp] theorem modReport_film (f : Report → Report) (s : State) : (modReport f s).film = s.film := rfl
@[simp] theorem modReport_index (f : Report → Report) (s : State) : (modReport f s).index = s.index := rfl

@[simp] theorem latchFrame_now (owner : Option Port) (s : State) : (latchFrame owner s).now = s.now := rfl
@[simp] theorem latchFrame_choices (owner : Option Port) (s : State) : (latchFrame owner s).choices = s.choices := rfl
@[simp] theorem latchFrame_pending (owner : Option Port) (s : State) : (latchFrame owner s).pending = s.pending := rfl
@[simp] theorem latchFrame_ports (owner : Option Port) (s : State) : (latchFrame owner s).ports = s.ports := rfl
@[simp] theorem latchFrame_docs (owner : Option Port) (s : State) : (latchFrame owner s).docs = s.docs := rfl
@[simp] theorem latchFrame_store (owner : Option Port) (s : State) : (latchFrame owner s).store = s.store := rfl
@[simp] theorem latchFrame_comp (owner : Option Port) (s : State) : (latchFrame owner s).comp = s.comp := rfl
@[simp] theorem latchFrame_dose_gain (owner : Option Port) (s : State) :
    (latchFrame owner s).dose.gain = s.dose.gain := rfl
@[simp] theorem latchFrame_dose_dotTime (owner : Option Port) (s : State) :
    (latchFrame owner s).dose.dotTime = s.dose.dotTime := rfl
@[simp] theorem latchFrame_dose_response (owner : Option Port) (s : State) :
    (latchFrame owner s).dose.response = s.dose.response := rfl
@[simp] theorem latchFrame_writer (owner : Option Port) (s : State) : (latchFrame owner s).writer = s.writer := rfl
@[simp] theorem latchFrame_beam (owner : Option Port) (s : State) : (latchFrame owner s).beam = s.beam := rfl
@[simp] theorem latchFrame_film (owner : Option Port) (s : State) : (latchFrame owner s).film = s.film := rfl
@[simp] theorem latchFrame_index (owner : Option Port) (s : State) : (latchFrame owner s).index = s.index := rfl

@[simp] theorem beginDots_now (s : State) : (beginDots s).now = s.now := rfl
@[simp] theorem beginDots_choices (s : State) : (beginDots s).choices = s.choices := rfl
@[simp] theorem beginDots_pending (s : State) : (beginDots s).pending = s.pending := rfl
@[simp] theorem beginDots_ports (s : State) : (beginDots s).ports = s.ports := rfl
@[simp] theorem beginDots_docs (s : State) : (beginDots s).docs = s.docs := rfl
@[simp] theorem beginDots_store (s : State) : (beginDots s).store = s.store := rfl
@[simp] theorem beginDots_comp (s : State) : (beginDots s).comp = s.comp := rfl
@[simp] theorem beginDots_dose (s : State) : (beginDots s).dose = s.dose := rfl
@[simp] theorem beginDots_writer_mode (s : State) : (beginDots s).writer.mode = s.writer.mode := rfl
@[simp] theorem beginDots_writer_site (s : State) : (beginDots s).writer.site = s.writer.site := rfl
@[simp] theorem beginDots_beam (s : State) : (beginDots s).beam = s.beam := rfl
@[simp] theorem beginDots_film (s : State) : (beginDots s).film = s.film := rfl
@[simp] theorem beginDots_index (s : State) : (beginDots s).index = s.index := rfl

@[simp] theorem releaseWriter_now (s : State) : (releaseWriter s).now = s.now := rfl
@[simp] theorem releaseWriter_choices (s : State) : (releaseWriter s).choices = s.choices := rfl
@[simp] theorem releaseWriter_pending (s : State) : (releaseWriter s).pending = s.pending := rfl
@[simp] theorem releaseWriter_ports (s : State) : (releaseWriter s).ports = s.ports := rfl
@[simp] theorem releaseWriter_docs (s : State) : (releaseWriter s).docs = s.docs := rfl
@[simp] theorem releaseWriter_store_memory (s : State) : (releaseWriter s).store.memory = s.store.memory := rfl
@[simp] theorem releaseWriter_store_pages (s : State) : (releaseWriter s).store.pages = s.store.pages := rfl
@[simp] theorem releaseWriter_store_freeList (s : State) : (releaseWriter s).store.freeList = s.store.freeList := rfl
@[simp] theorem releaseWriter_store_held (s : State) : (releaseWriter s).store.held = s.store.held := rfl
@[simp] theorem releaseWriter_store_quota (s : State) : (releaseWriter s).store.quota = s.store.quota := rfl
@[simp] theorem releaseWriter_comp (s : State) : (releaseWriter s).comp = s.comp := rfl
@[simp] theorem releaseWriter_dose (s : State) : (releaseWriter s).dose = s.dose := rfl
@[simp] theorem releaseWriter_beam_state (s : State) : (releaseWriter s).beam.state = s.beam.state := rfl
@[simp] theorem releaseWriter_beam_floorIndex (s : State) :
    (releaseWriter s).beam.floorIndex = s.beam.floorIndex := rfl
@[simp] theorem releaseWriter_beam_drift (s : State) : (releaseWriter s).beam.drift = s.beam.drift := rfl
@[simp] theorem releaseWriter_film_film (s : State) : (releaseWriter s).film.film = s.film.film := rfl
@[simp] theorem releaseWriter_film_count (s : State) : (releaseWriter s).film.count = s.film.count := rfl
@[simp] theorem releaseWriter_film_lot (s : State) : (releaseWriter s).film.lot = s.film.lot := rfl
@[simp] theorem releaseWriter_film_factor (s : State) : (releaseWriter s).film.factor = s.film.factor := rfl
@[simp] theorem releaseWriter_film_gateDue (s : State) : (releaseWriter s).film.gateDue = s.film.gateDue := rfl
@[simp] theorem releaseWriter_index (s : State) : (releaseWriter s).index = s.index := rfl

@[simp] theorem undoRetakes_now (r : SheetRec) (s : State) : (undoRetakes r s).now = s.now := rfl
@[simp] theorem undoRetakes_choices (r : SheetRec) (s : State) : (undoRetakes r s).choices = s.choices := rfl
@[simp] theorem undoRetakes_pending (r : SheetRec) (s : State) : (undoRetakes r s).pending = s.pending := rfl
@[simp] theorem undoRetakes_ports (r : SheetRec) (s : State) : (undoRetakes r s).ports = s.ports := rfl
@[simp] theorem undoRetakes_docs (r : SheetRec) (s : State) : (undoRetakes r s).docs = s.docs := rfl
@[simp] theorem undoRetakes_store (r : SheetRec) (s : State) : (undoRetakes r s).store = s.store := rfl
@[simp] theorem undoRetakes_comp_sheet (r : SheetRec) (s : State) : (undoRetakes r s).comp.sheet = s.comp.sheet := rfl
@[simp] theorem undoRetakes_comp_halts (r : SheetRec) (s : State) : (undoRetakes r s).comp.halts = s.comp.halts := rfl
@[simp] theorem undoRetakes_comp_layouts (r : SheetRec) (s : State) :
    (undoRetakes r s).comp.layouts = s.comp.layouts := rfl
@[simp] theorem undoRetakes_comp_nextLayout (r : SheetRec) (s : State) :
    (undoRetakes r s).comp.nextLayout = s.comp.nextLayout := rfl
@[simp] theorem undoRetakes_comp_group (r : SheetRec) (s : State) : (undoRetakes r s).comp.group = s.comp.group := rfl
@[simp] theorem undoRetakes_comp_pauseLimit (r : SheetRec) (s : State) :
    (undoRetakes r s).comp.pauseLimit = s.comp.pauseLimit := rfl
@[simp] theorem undoRetakes_comp_completionLimit (r : SheetRec) (s : State) :
    (undoRetakes r s).comp.completionLimit = s.comp.completionLimit := rfl
@[simp] theorem undoRetakes_comp_ageLimit (r : SheetRec) (s : State) :
    (undoRetakes r s).comp.ageLimit = s.comp.ageLimit := rfl
@[simp] theorem undoRetakes_comp_starveClose (r : SheetRec) (s : State) :
    (undoRetakes r s).comp.starveClose = s.comp.starveClose := rfl
@[simp] theorem undoRetakes_comp_nextSerial (r : SheetRec) (s : State) :
    (undoRetakes r s).comp.nextSerial = s.comp.nextSerial := rfl
@[simp] theorem undoRetakes_comp_greatest (r : SheetRec) (s : State) :
    (undoRetakes r s).comp.greatest = s.comp.greatest := rfl
@[simp] theorem undoRetakes_comp_cell (r : SheetRec) (s : State) : (undoRetakes r s).comp.cell = s.comp.cell := rfl
@[simp] theorem undoRetakes_dose (r : SheetRec) (s : State) : (undoRetakes r s).dose = s.dose := rfl
@[simp] theorem undoRetakes_writer (r : SheetRec) (s : State) : (undoRetakes r s).writer = s.writer := rfl
@[simp] theorem undoRetakes_beam (r : SheetRec) (s : State) : (undoRetakes r s).beam = s.beam := rfl
@[simp] theorem undoRetakes_film (r : SheetRec) (s : State) : (undoRetakes r s).film = s.film := rfl
@[simp] theorem undoRetakes_index (r : SheetRec) (s : State) : (undoRetakes r s).index = s.index := rfl

@[simp] theorem stopSheet_now (s : State) : (stopSheet s).now = s.now := rfl
@[simp] theorem stopSheet_choices (s : State) : (stopSheet s).choices = s.choices := rfl
@[simp] theorem stopSheet_pending (s : State) : (stopSheet s).pending = s.pending := rfl
@[simp] theorem stopSheet_ports (s : State) : (stopSheet s).ports = s.ports := rfl
@[simp] theorem stopSheet_docs (s : State) : (stopSheet s).docs = s.docs := rfl
@[simp] theorem stopSheet_store (s : State) : (stopSheet s).store = s.store := rfl
@[simp] theorem stopSheet_comp_halts (s : State) : (stopSheet s).comp.halts = s.comp.halts := rfl
@[simp] theorem stopSheet_comp_layouts (s : State) : (stopSheet s).comp.layouts = s.comp.layouts := rfl
@[simp] theorem stopSheet_comp_nextLayout (s : State) : (stopSheet s).comp.nextLayout = s.comp.nextLayout := rfl
@[simp] theorem stopSheet_comp_group (s : State) : (stopSheet s).comp.group = s.comp.group := rfl
@[simp] theorem stopSheet_comp_pauseLimit (s : State) : (stopSheet s).comp.pauseLimit = s.comp.pauseLimit := rfl
@[simp] theorem stopSheet_comp_completionLimit (s : State) :
    (stopSheet s).comp.completionLimit = s.comp.completionLimit := rfl
@[simp] theorem stopSheet_comp_ageLimit (s : State) : (stopSheet s).comp.ageLimit = s.comp.ageLimit := rfl
@[simp] theorem stopSheet_comp_starveClose (s : State) : (stopSheet s).comp.starveClose = s.comp.starveClose := rfl
@[simp] theorem stopSheet_comp_nextSerial (s : State) : (stopSheet s).comp.nextSerial = s.comp.nextSerial := rfl
@[simp] theorem stopSheet_comp_greatest (s : State) : (stopSheet s).comp.greatest = s.comp.greatest := rfl
@[simp] theorem stopSheet_comp_cell (s : State) : (stopSheet s).comp.cell = s.comp.cell := rfl
@[simp] theorem stopSheet_dose (s : State) : (stopSheet s).dose = s.dose := rfl
@[simp] theorem stopSheet_writer (s : State) : (stopSheet s).writer = s.writer := rfl
@[simp] theorem stopSheet_beam (s : State) : (stopSheet s).beam = s.beam := rfl
@[simp] theorem stopSheet_film (s : State) : (stopSheet s).film = s.film := rfl
@[simp] theorem stopSheet_index (s : State) : (stopSheet s).index = s.index := rfl

@[simp] theorem reach_choices (t : Nat) (s : State) : (reach t s).choices = s.choices := rfl
@[simp] theorem reach_pending (t : Nat) (s : State) : (reach t s).pending = s.pending := rfl
@[simp] theorem reach_ports (t : Nat) (s : State) : (reach t s).ports = s.ports := rfl
@[simp] theorem reach_docs (t : Nat) (s : State) : (reach t s).docs = s.docs := rfl
@[simp] theorem reach_store (t : Nat) (s : State) : (reach t s).store = s.store := rfl
@[simp] theorem reach_comp (t : Nat) (s : State) : (reach t s).comp = s.comp := rfl
@[simp] theorem reach_dose (t : Nat) (s : State) : (reach t s).dose = s.dose := rfl
@[simp] theorem reach_writer (t : Nat) (s : State) : (reach t s).writer = s.writer := rfl
@[simp] theorem reach_beam (t : Nat) (s : State) : (reach t s).beam = s.beam := rfl
@[simp] theorem reach_film (t : Nat) (s : State) : (reach t s).film = s.film := rfl
@[simp] theorem reach_index (t : Nat) (s : State) : (reach t s).index = s.index := rfl

@[simp] theorem judged_now (reading : Nat) (s : State) : (judged reading s).now = s.now := rfl
@[simp] theorem judged_choices (reading : Nat) (s : State) : (judged reading s).choices = s.choices := rfl
@[simp] theorem judged_pending (reading : Nat) (s : State) : (judged reading s).pending = s.pending := rfl
@[simp] theorem judged_ports (reading : Nat) (s : State) : (judged reading s).ports = s.ports := rfl
@[simp] theorem judged_docs (reading : Nat) (s : State) : (judged reading s).docs = s.docs := rfl
@[simp] theorem judged_store (reading : Nat) (s : State) : (judged reading s).store = s.store := rfl
@[simp] theorem judged_comp (reading : Nat) (s : State) : (judged reading s).comp = s.comp := rfl
@[simp] theorem judged_dose (reading : Nat) (s : State) : (judged reading s).dose = s.dose := rfl
@[simp] theorem judged_writer (reading : Nat) (s : State) : (judged reading s).writer = s.writer := rfl
@[simp] theorem judged_beam_floorIndex (reading : Nat) (s : State) :
    (judged reading s).beam.floorIndex = s.beam.floorIndex := rfl
@[simp] theorem judged_beam_drift (reading : Nat) (s : State) : (judged reading s).beam.drift = s.beam.drift := rfl
@[simp] theorem judged_film (reading : Nat) (s : State) : (judged reading s).film = s.film := rfl
@[simp] theorem judged_index (reading : Nat) (s : State) : (judged reading s).index = s.index := rfl

@[simp] theorem latchReading_now (reading : Nat) (s : State) : (latchReading reading s).now = s.now := rfl
@[simp] theorem latchReading_choices (reading : Nat) (s : State) : (latchReading reading s).choices = s.choices := rfl
@[simp] theorem latchReading_pending (reading : Nat) (s : State) : (latchReading reading s).pending = s.pending := rfl
@[simp] theorem latchReading_ports (reading : Nat) (s : State) : (latchReading reading s).ports = s.ports := rfl
@[simp] theorem latchReading_docs (reading : Nat) (s : State) : (latchReading reading s).docs = s.docs := rfl
@[simp] theorem latchReading_store (reading : Nat) (s : State) : (latchReading reading s).store = s.store := rfl
@[simp] theorem latchReading_comp (reading : Nat) (s : State) : (latchReading reading s).comp = s.comp := rfl
@[simp] theorem latchReading_dose (reading : Nat) (s : State) : (latchReading reading s).dose = s.dose := rfl
@[simp] theorem latchReading_writer_mode (reading : Nat) (s : State) :
    (latchReading reading s).writer.mode = s.writer.mode := rfl
@[simp] theorem latchReading_writer_site (reading : Nat) (s : State) :
    (latchReading reading s).writer.site = s.writer.site := rfl
@[simp] theorem latchReading_beam (reading : Nat) (s : State) : (latchReading reading s).beam = s.beam := rfl
@[simp] theorem latchReading_film (reading : Nat) (s : State) : (latchReading reading s).film = s.film := rfl
@[simp] theorem latchReading_index (reading : Nat) (s : State) : (latchReading reading s).index = s.index := rfl

@[simp] theorem modDose_now (f : DoseUnit → DoseUnit) (s : State) : (modDose f s).now = s.now := rfl
@[simp] theorem modDose_choices (f : DoseUnit → DoseUnit) (s : State) : (modDose f s).choices = s.choices := rfl
@[simp] theorem modDose_pending (f : DoseUnit → DoseUnit) (s : State) : (modDose f s).pending = s.pending := rfl
@[simp] theorem modDose_ports (f : DoseUnit → DoseUnit) (s : State) : (modDose f s).ports = s.ports := rfl
@[simp] theorem modDose_docs (f : DoseUnit → DoseUnit) (s : State) : (modDose f s).docs = s.docs := rfl
@[simp] theorem modDose_store (f : DoseUnit → DoseUnit) (s : State) : (modDose f s).store = s.store := rfl
@[simp] theorem modDose_comp (f : DoseUnit → DoseUnit) (s : State) : (modDose f s).comp = s.comp := rfl
@[simp] theorem modDose_writer (f : DoseUnit → DoseUnit) (s : State) : (modDose f s).writer = s.writer := rfl
@[simp] theorem modDose_beam (f : DoseUnit → DoseUnit) (s : State) : (modDose f s).beam = s.beam := rfl
@[simp] theorem modDose_film (f : DoseUnit → DoseUnit) (s : State) : (modDose f s).film = s.film := rfl
@[simp] theorem modDose_index (f : DoseUnit → DoseUnit) (s : State) : (modDose f s).index = s.index := rfl

@[simp] theorem standAt_now (place : Place) (s : State) : (standAt place s).now = s.now := rfl
@[simp] theorem standAt_choices (place : Place) (s : State) : (standAt place s).choices = s.choices := rfl
@[simp] theorem standAt_pending (place : Place) (s : State) : (standAt place s).pending = s.pending := rfl
@[simp] theorem standAt_ports (place : Place) (s : State) : (standAt place s).ports = s.ports := rfl
@[simp] theorem standAt_docs (place : Place) (s : State) : (standAt place s).docs = s.docs := rfl
@[simp] theorem standAt_store (place : Place) (s : State) : (standAt place s).store = s.store := rfl
@[simp] theorem standAt_comp (place : Place) (s : State) : (standAt place s).comp = s.comp := rfl
@[simp] theorem standAt_dose (place : Place) (s : State) : (standAt place s).dose = s.dose := rfl
@[simp] theorem standAt_writer (place : Place) (s : State) : (standAt place s).writer = s.writer := rfl
@[simp] theorem standAt_beam (place : Place) (s : State) : (standAt place s).beam = s.beam := rfl
@[simp] theorem standAt_film_film (place : Place) (s : State) : (standAt place s).film.film = s.film.film := rfl
@[simp] theorem standAt_film_count (place : Place) (s : State) : (standAt place s).film.count = s.film.count := rfl
@[simp] theorem standAt_film_lot (place : Place) (s : State) : (standAt place s).film.lot = s.film.lot := rfl
@[simp] theorem standAt_film_factor (place : Place) (s : State) : (standAt place s).film.factor = s.film.factor := rfl
@[simp] theorem standAt_film_gateDue (place : Place) (s : State) :
    (standAt place s).film.gateDue = s.film.gateDue := rfl
@[simp] theorem standAt_index (place : Place) (s : State) : (standAt place s).index = s.index := rfl

@[simp] theorem homed_now (s : State) : (homed s).now = s.now := rfl
@[simp] theorem homed_choices (s : State) : (homed s).choices = s.choices := rfl
@[simp] theorem homed_pending (s : State) : (homed s).pending = s.pending := rfl
@[simp] theorem homed_ports (s : State) : (homed s).ports = s.ports := rfl
@[simp] theorem homed_docs (s : State) : (homed s).docs = s.docs := rfl
@[simp] theorem homed_store (s : State) : (homed s).store = s.store := rfl
@[simp] theorem homed_comp (s : State) : (homed s).comp = s.comp := rfl
@[simp] theorem homed_dose (s : State) : (homed s).dose = s.dose := rfl
@[simp] theorem homed_writer (s : State) : (homed s).writer = s.writer := rfl
@[simp] theorem homed_beam (s : State) : (homed s).beam = s.beam := rfl
@[simp] theorem homed_film_film (s : State) : (homed s).film.film = s.film.film := rfl
@[simp] theorem homed_film_count (s : State) : (homed s).film.count = s.film.count := rfl
@[simp] theorem homed_film_lot (s : State) : (homed s).film.lot = s.film.lot := rfl
@[simp] theorem homed_film_factor (s : State) : (homed s).film.factor = s.film.factor := rfl
@[simp] theorem homed_film_gateDue (s : State) : (homed s).film.gateDue = s.film.gateDue := rfl
@[simp] theorem homed_index (s : State) : (homed s).index = s.index := rfl

@[simp] theorem endDots_choices (s : State) : (endDots s).choices = s.choices := rfl
@[simp] theorem endDots_pending (s : State) : (endDots s).pending = s.pending := rfl
@[simp] theorem endDots_ports (s : State) : (endDots s).ports = s.ports := rfl
@[simp] theorem endDots_docs (s : State) : (endDots s).docs = s.docs := rfl
@[simp] theorem endDots_store (s : State) : (endDots s).store = s.store := rfl
@[simp] theorem endDots_comp (s : State) : (endDots s).comp = s.comp := rfl
@[simp] theorem endDots_dose (s : State) : (endDots s).dose = s.dose := rfl
@[simp] theorem endDots_writer_mode (s : State) : (endDots s).writer.mode = s.writer.mode := rfl
@[simp] theorem endDots_writer_site (s : State) : (endDots s).writer.site = s.writer.site := rfl
@[simp] theorem endDots_beam (s : State) : (endDots s).beam = s.beam := rfl
@[simp] theorem endDots_film (s : State) : (endDots s).film = s.film := rfl
@[simp] theorem endDots_index (s : State) : (endDots s).index = s.index := rfl

@[simp] theorem createPage_now (p : Port) (h width height depth dpi : Nat) (rot : Rotation) (s : State) :
    (createPage p h width height depth dpi rot s).now = s.now := rfl
@[simp] theorem createPage_choices (p : Port) (h width height depth dpi : Nat) (rot : Rotation) (s : State) :
    (createPage p h width height depth dpi rot s).choices = s.choices := rfl
@[simp] theorem createPage_pending (p : Port) (h width height depth dpi : Nat) (rot : Rotation) (s : State) :
    (createPage p h width height depth dpi rot s).pending = s.pending := rfl
@[simp] theorem createPage_ports (p : Port) (h width height depth dpi : Nat) (rot : Rotation) (s : State) :
    (createPage p h width height depth dpi rot s).ports = s.ports := rfl
@[simp] theorem createPage_docs (p : Port) (h width height depth dpi : Nat) (rot : Rotation) (s : State) :
    (createPage p h width height depth dpi rot s).docs = s.docs := rfl
@[simp] theorem createPage_store_memory (p : Port) (h width height depth dpi : Nat) (rot : Rotation) (s : State) :
    (createPage p h width height depth dpi rot s).store.memory = s.store.memory := rfl
@[simp] theorem createPage_store_quota (p : Port) (h width height depth dpi : Nat) (rot : Rotation) (s : State) :
    (createPage p h width height depth dpi rot s).store.quota = s.store.quota := rfl
@[simp] theorem createPage_comp (p : Port) (h width height depth dpi : Nat) (rot : Rotation) (s : State) :
    (createPage p h width height depth dpi rot s).comp = s.comp := rfl
@[simp] theorem createPage_dose (p : Port) (h width height depth dpi : Nat) (rot : Rotation) (s : State) :
    (createPage p h width height depth dpi rot s).dose = s.dose := rfl
@[simp] theorem createPage_writer (p : Port) (h width height depth dpi : Nat) (rot : Rotation) (s : State) :
    (createPage p h width height depth dpi rot s).writer = s.writer := rfl
@[simp] theorem createPage_beam (p : Port) (h width height depth dpi : Nat) (rot : Rotation) (s : State) :
    (createPage p h width height depth dpi rot s).beam = s.beam := rfl
@[simp] theorem createPage_film (p : Port) (h width height depth dpi : Nat) (rot : Rotation) (s : State) :
    (createPage p h width height depth dpi rot s).film = s.film := rfl
@[simp] theorem createPage_index (p : Port) (h width height depth dpi : Nat) (rot : Rotation) (s : State) :
    (createPage p h width height depth dpi rot s).index = s.index := rfl

@[simp] theorem countRows_now (w : PendingWrite) (rest : List PendingWrite) (pg : Page) (s : State) :
    (countRows w rest pg s).now = s.now := rfl
@[simp] theorem countRows_choices (w : PendingWrite) (rest : List PendingWrite) (pg : Page) (s : State) :
    (countRows w rest pg s).choices = s.choices := rfl
@[simp] theorem countRows_pending (w : PendingWrite) (rest : List PendingWrite) (pg : Page) (s : State) :
    (countRows w rest pg s).pending = s.pending := rfl
@[simp] theorem countRows_ports (w : PendingWrite) (rest : List PendingWrite) (pg : Page) (s : State) :
    (countRows w rest pg s).ports = s.ports := rfl
@[simp] theorem countRows_docs (w : PendingWrite) (rest : List PendingWrite) (pg : Page) (s : State) :
    (countRows w rest pg s).docs = s.docs := rfl
@[simp] theorem countRows_store_freeList (w : PendingWrite) (rest : List PendingWrite) (pg : Page) (s : State) :
    (countRows w rest pg s).store.freeList = s.store.freeList := rfl
@[simp] theorem countRows_store_held (w : PendingWrite) (rest : List PendingWrite) (pg : Page) (s : State) :
    (countRows w rest pg s).store.held = s.store.held := rfl
@[simp] theorem countRows_store_quota (w : PendingWrite) (rest : List PendingWrite) (pg : Page) (s : State) :
    (countRows w rest pg s).store.quota = s.store.quota := rfl
@[simp] theorem countRows_comp (w : PendingWrite) (rest : List PendingWrite) (pg : Page) (s : State) :
    (countRows w rest pg s).comp = s.comp := rfl
@[simp] theorem countRows_dose (w : PendingWrite) (rest : List PendingWrite) (pg : Page) (s : State) :
    (countRows w rest pg s).dose = s.dose := rfl
@[simp] theorem countRows_writer (w : PendingWrite) (rest : List PendingWrite) (pg : Page) (s : State) :
    (countRows w rest pg s).writer = s.writer := rfl
@[simp] theorem countRows_beam (w : PendingWrite) (rest : List PendingWrite) (pg : Page) (s : State) :
    (countRows w rest pg s).beam = s.beam := rfl
@[simp] theorem countRows_film (w : PendingWrite) (rest : List PendingWrite) (pg : Page) (s : State) :
    (countRows w rest pg s).film = s.film := rfl
@[simp] theorem countRows_index (w : PendingWrite) (rest : List PendingWrite) (pg : Page) (s : State) :
    (countRows w rest pg s).index = s.index := rfl

@[simp] theorem replyRows_now (w : PendingWrite) (pg : Page) (s : State) : (replyRows w pg s).now = s.now := rfl
@[simp] theorem replyRows_choices (w : PendingWrite) (pg : Page) (s : State) :
    (replyRows w pg s).choices = s.choices := rfl
@[simp] theorem replyRows_pending (w : PendingWrite) (pg : Page) (s : State) :
    (replyRows w pg s).pending = s.pending := rfl
@[simp] theorem replyRows_docs (w : PendingWrite) (pg : Page) (s : State) : (replyRows w pg s).docs = s.docs := rfl
@[simp] theorem replyRows_store (w : PendingWrite) (pg : Page) (s : State) : (replyRows w pg s).store = s.store := rfl
@[simp] theorem replyRows_comp (w : PendingWrite) (pg : Page) (s : State) : (replyRows w pg s).comp = s.comp := rfl
@[simp] theorem replyRows_dose (w : PendingWrite) (pg : Page) (s : State) : (replyRows w pg s).dose = s.dose := rfl
@[simp] theorem replyRows_writer (w : PendingWrite) (pg : Page) (s : State) :
    (replyRows w pg s).writer = s.writer := rfl
@[simp] theorem replyRows_beam (w : PendingWrite) (pg : Page) (s : State) : (replyRows w pg s).beam = s.beam := rfl
@[simp] theorem replyRows_film (w : PendingWrite) (pg : Page) (s : State) : (replyRows w pg s).film = s.film := rfl
@[simp] theorem replyRows_index (w : PendingWrite) (pg : Page) (s : State) : (replyRows w pg s).index = s.index := rfl

@[simp] theorem modRun_now (f : ArbRun → ArbRun) (s : State) : (modRun f s).now = s.now := rfl
@[simp] theorem modRun_choices (f : ArbRun → ArbRun) (s : State) : (modRun f s).choices = s.choices := rfl
@[simp] theorem modRun_pending (f : ArbRun → ArbRun) (s : State) : (modRun f s).pending = s.pending := rfl
@[simp] theorem modRun_ports (f : ArbRun → ArbRun) (s : State) : (modRun f s).ports = s.ports := rfl
@[simp] theorem modRun_docs (f : ArbRun → ArbRun) (s : State) : (modRun f s).docs = s.docs := rfl
@[simp] theorem modRun_store (f : ArbRun → ArbRun) (s : State) : (modRun f s).store = s.store := rfl
@[simp] theorem modRun_comp_sheet (f : ArbRun → ArbRun) (s : State) : (modRun f s).comp.sheet = s.comp.sheet := rfl
@[simp] theorem modRun_comp_halts (f : ArbRun → ArbRun) (s : State) : (modRun f s).comp.halts = s.comp.halts := rfl
@[simp] theorem modRun_comp_layouts (f : ArbRun → ArbRun) (s : State) :
    (modRun f s).comp.layouts = s.comp.layouts := rfl
@[simp] theorem modRun_comp_nextLayout (f : ArbRun → ArbRun) (s : State) :
    (modRun f s).comp.nextLayout = s.comp.nextLayout := rfl
@[simp] theorem modRun_comp_group (f : ArbRun → ArbRun) (s : State) : (modRun f s).comp.group = s.comp.group := rfl
@[simp] theorem modRun_comp_pauseLimit (f : ArbRun → ArbRun) (s : State) :
    (modRun f s).comp.pauseLimit = s.comp.pauseLimit := rfl
@[simp] theorem modRun_comp_completionLimit (f : ArbRun → ArbRun) (s : State) :
    (modRun f s).comp.completionLimit = s.comp.completionLimit := rfl
@[simp] theorem modRun_comp_ageLimit (f : ArbRun → ArbRun) (s : State) :
    (modRun f s).comp.ageLimit = s.comp.ageLimit := rfl
@[simp] theorem modRun_comp_starveClose (f : ArbRun → ArbRun) (s : State) :
    (modRun f s).comp.starveClose = s.comp.starveClose := rfl
@[simp] theorem modRun_comp_nextSerial (f : ArbRun → ArbRun) (s : State) :
    (modRun f s).comp.nextSerial = s.comp.nextSerial := rfl
@[simp] theorem modRun_comp_greatest (f : ArbRun → ArbRun) (s : State) :
    (modRun f s).comp.greatest = s.comp.greatest := rfl
@[simp] theorem modRun_comp_cell (f : ArbRun → ArbRun) (s : State) : (modRun f s).comp.cell = s.comp.cell := rfl
@[simp] theorem modRun_dose (f : ArbRun → ArbRun) (s : State) : (modRun f s).dose = s.dose := rfl
@[simp] theorem modRun_writer (f : ArbRun → ArbRun) (s : State) : (modRun f s).writer = s.writer := rfl
@[simp] theorem modRun_beam (f : ArbRun → ArbRun) (s : State) : (modRun f s).beam = s.beam := rfl
@[simp] theorem modRun_film (f : ArbRun → ArbRun) (s : State) : (modRun f s).film = s.film := rfl
@[simp] theorem modRun_index (f : ArbRun → ArbRun) (s : State) : (modRun f s).index = s.index := rfl

@[simp] theorem turnDone_now (p : Port) (s : State) : (turnDone p s).now = s.now := rfl
@[simp] theorem turnDone_choices (p : Port) (s : State) : (turnDone p s).choices = s.choices := rfl
@[simp] theorem turnDone_pending (p : Port) (s : State) : (turnDone p s).pending = s.pending := rfl
@[simp] theorem turnDone_ports (p : Port) (s : State) : (turnDone p s).ports = s.ports := rfl
@[simp] theorem turnDone_docs (p : Port) (s : State) : (turnDone p s).docs = s.docs := rfl
@[simp] theorem turnDone_store (p : Port) (s : State) : (turnDone p s).store = s.store := rfl
@[simp] theorem turnDone_comp_sheet (p : Port) (s : State) : (turnDone p s).comp.sheet = s.comp.sheet := rfl
@[simp] theorem turnDone_comp_halts (p : Port) (s : State) : (turnDone p s).comp.halts = s.comp.halts := rfl
@[simp] theorem turnDone_comp_layouts (p : Port) (s : State) : (turnDone p s).comp.layouts = s.comp.layouts := rfl
@[simp] theorem turnDone_comp_nextLayout (p : Port) (s : State) :
    (turnDone p s).comp.nextLayout = s.comp.nextLayout := rfl
@[simp] theorem turnDone_comp_group (p : Port) (s : State) : (turnDone p s).comp.group = s.comp.group := rfl
@[simp] theorem turnDone_comp_pauseLimit (p : Port) (s : State) :
    (turnDone p s).comp.pauseLimit = s.comp.pauseLimit := rfl
@[simp] theorem turnDone_comp_completionLimit (p : Port) (s : State) :
    (turnDone p s).comp.completionLimit = s.comp.completionLimit := rfl
@[simp] theorem turnDone_comp_ageLimit (p : Port) (s : State) : (turnDone p s).comp.ageLimit = s.comp.ageLimit := rfl
@[simp] theorem turnDone_comp_starveClose (p : Port) (s : State) :
    (turnDone p s).comp.starveClose = s.comp.starveClose := rfl
@[simp] theorem turnDone_comp_nextSerial (p : Port) (s : State) :
    (turnDone p s).comp.nextSerial = s.comp.nextSerial := rfl
@[simp] theorem turnDone_comp_greatest (p : Port) (s : State) : (turnDone p s).comp.greatest = s.comp.greatest := rfl
@[simp] theorem turnDone_comp_cell (p : Port) (s : State) : (turnDone p s).comp.cell = s.comp.cell := rfl
@[simp] theorem turnDone_dose (p : Port) (s : State) : (turnDone p s).dose = s.dose := rfl
@[simp] theorem turnDone_writer (p : Port) (s : State) : (turnDone p s).writer = s.writer := rfl
@[simp] theorem turnDone_beam (p : Port) (s : State) : (turnDone p s).beam = s.beam := rfl
@[simp] theorem turnDone_film (p : Port) (s : State) : (turnDone p s).film = s.film := rfl
@[simp] theorem turnDone_index (p : Port) (s : State) : (turnDone p s).index = s.index := rfl

@[simp] theorem loseRetake_now (t : Retake) (s : State) : (loseRetake t s).now = s.now := rfl
@[simp] theorem loseRetake_choices (t : Retake) (s : State) : (loseRetake t s).choices = s.choices := rfl
@[simp] theorem loseRetake_pending (t : Retake) (s : State) : (loseRetake t s).pending = s.pending := rfl
@[simp] theorem loseRetake_ports (t : Retake) (s : State) : (loseRetake t s).ports = s.ports := rfl
@[simp] theorem loseRetake_docs_queues (t : Retake) (s : State) : (loseRetake t s).docs.queues = s.docs.queues := rfl
@[simp] theorem loseRetake_store (t : Retake) (s : State) : (loseRetake t s).store = s.store := rfl
@[simp] theorem loseRetake_comp_sheet (t : Retake) (s : State) : (loseRetake t s).comp.sheet = s.comp.sheet := rfl
@[simp] theorem loseRetake_comp_halts (t : Retake) (s : State) : (loseRetake t s).comp.halts = s.comp.halts := rfl
@[simp] theorem loseRetake_comp_layouts (t : Retake) (s : State) :
    (loseRetake t s).comp.layouts = s.comp.layouts := rfl
@[simp] theorem loseRetake_comp_nextLayout (t : Retake) (s : State) :
    (loseRetake t s).comp.nextLayout = s.comp.nextLayout := rfl
@[simp] theorem loseRetake_comp_group (t : Retake) (s : State) : (loseRetake t s).comp.group = s.comp.group := rfl
@[simp] theorem loseRetake_comp_pauseLimit (t : Retake) (s : State) :
    (loseRetake t s).comp.pauseLimit = s.comp.pauseLimit := rfl
@[simp] theorem loseRetake_comp_completionLimit (t : Retake) (s : State) :
    (loseRetake t s).comp.completionLimit = s.comp.completionLimit := rfl
@[simp] theorem loseRetake_comp_ageLimit (t : Retake) (s : State) :
    (loseRetake t s).comp.ageLimit = s.comp.ageLimit := rfl
@[simp] theorem loseRetake_comp_starveClose (t : Retake) (s : State) :
    (loseRetake t s).comp.starveClose = s.comp.starveClose := rfl
@[simp] theorem loseRetake_comp_nextSerial (t : Retake) (s : State) :
    (loseRetake t s).comp.nextSerial = s.comp.nextSerial := rfl
@[simp] theorem loseRetake_comp_greatest (t : Retake) (s : State) :
    (loseRetake t s).comp.greatest = s.comp.greatest := rfl
@[simp] theorem loseRetake_comp_cell (t : Retake) (s : State) : (loseRetake t s).comp.cell = s.comp.cell := rfl
@[simp] theorem loseRetake_dose (t : Retake) (s : State) : (loseRetake t s).dose = s.dose := rfl
@[simp] theorem loseRetake_writer (t : Retake) (s : State) : (loseRetake t s).writer = s.writer := rfl
@[simp] theorem loseRetake_beam (t : Retake) (s : State) : (loseRetake t s).beam = s.beam := rfl
@[simp] theorem loseRetake_film (t : Retake) (s : State) : (loseRetake t s).film = s.film := rfl
@[simp] theorem loseRetake_index (t : Retake) (s : State) : (loseRetake t s).index = s.index := rfl

@[simp] theorem failTry_now (p : Port) (s : State) : (failTry p s).now = s.now := rfl
@[simp] theorem failTry_choices (p : Port) (s : State) : (failTry p s).choices = s.choices := rfl
@[simp] theorem failTry_pending (p : Port) (s : State) : (failTry p s).pending = s.pending := rfl
@[simp] theorem failTry_ports (p : Port) (s : State) : (failTry p s).ports = s.ports := rfl
@[simp] theorem failTry_docs (p : Port) (s : State) : (failTry p s).docs = s.docs := rfl
@[simp] theorem failTry_store (p : Port) (s : State) : (failTry p s).store = s.store := rfl
@[simp] theorem failTry_comp_sheet (p : Port) (s : State) : (failTry p s).comp.sheet = s.comp.sheet := rfl
@[simp] theorem failTry_comp_halts (p : Port) (s : State) : (failTry p s).comp.halts = s.comp.halts := rfl
@[simp] theorem failTry_comp_layouts (p : Port) (s : State) : (failTry p s).comp.layouts = s.comp.layouts := rfl
@[simp] theorem failTry_comp_nextLayout (p : Port) (s : State) :
    (failTry p s).comp.nextLayout = s.comp.nextLayout := rfl
@[simp] theorem failTry_comp_group (p : Port) (s : State) : (failTry p s).comp.group = s.comp.group := rfl
@[simp] theorem failTry_comp_pauseLimit (p : Port) (s : State) :
    (failTry p s).comp.pauseLimit = s.comp.pauseLimit := rfl
@[simp] theorem failTry_comp_completionLimit (p : Port) (s : State) :
    (failTry p s).comp.completionLimit = s.comp.completionLimit := rfl
@[simp] theorem failTry_comp_ageLimit (p : Port) (s : State) : (failTry p s).comp.ageLimit = s.comp.ageLimit := rfl
@[simp] theorem failTry_comp_starveClose (p : Port) (s : State) :
    (failTry p s).comp.starveClose = s.comp.starveClose := rfl
@[simp] theorem failTry_comp_nextSerial (p : Port) (s : State) :
    (failTry p s).comp.nextSerial = s.comp.nextSerial := rfl
@[simp] theorem failTry_comp_greatest (p : Port) (s : State) : (failTry p s).comp.greatest = s.comp.greatest := rfl
@[simp] theorem failTry_comp_cell (p : Port) (s : State) : (failTry p s).comp.cell = s.comp.cell := rfl
@[simp] theorem failTry_dose (p : Port) (s : State) : (failTry p s).dose = s.dose := rfl
@[simp] theorem failTry_writer (p : Port) (s : State) : (failTry p s).writer = s.writer := rfl
@[simp] theorem failTry_beam (p : Port) (s : State) : (failTry p s).beam = s.beam := rfl
@[simp] theorem failTry_film (p : Port) (s : State) : (failTry p s).film = s.film := rfl
@[simp] theorem failTry_index (p : Port) (s : State) : (failTry p s).index = s.index := rfl

end Machine
end Sys2Proof
end

