-- ==== Sys2Proof/Laws/Shared.lean ====
section
/-! SUPPORT. Frames: what each operation on ports, pages, documents and queues leaves as it was. `x_keeps` names
every field that the operation x keeps in every state, `x_ports` that the class and the link state of every port are
kept. A field that is not named may change. -/

namespace Sys2Proof.Machine

@[simp] theorem raise_cls (n : Notice) (r : PortRec) : (r.raise n).cls = r.cls := by
  unfold PortRec.raise; split <;> rfl

@[simp] theorem raise_up (n : Notice) (r : PortRec) : (r.raise n).up = r.up := by
  unfold PortRec.raise; split <;> rfl

@[simp] theorem modPort_cls (p q : Port) (f : PortRec → PortRec) (s : State) (h : ∀ r, (f r).cls = r.cls) :
    ((modPort p f s).ports.get q).cls = (s.ports.get q).cls :=
  PerPort.get_set_keep (fun r : PortRec => r.cls) _ _ _ _ (h _)

@[simp] theorem modPort_up (p q : Port) (f : PortRec → PortRec) (s : State) (h : ∀ r, (f r).up = r.up) :
    ((modPort p f s).ports.get q).up = (s.ports.get q).up :=
  PerPort.get_set_keep (fun r : PortRec => r.up) _ _ _ _ (h _)

@[simp] theorem notify_ports (p : Port) (n : Notice) (s : State) (q : Port) :
    ((notify p n s).ports.get q).cls = (s.ports.get q).cls ∧ ((notify p n s).ports.get q).up = (s.ports.get q).up :=
    by
  simp [notify]

@[simp] theorem notifyAll_ports (n : Notice) (s : State) (q : Port) :
    ((notifyAll n s).ports.get q).cls = (s.ports.get q).cls ∧ ((notifyAll n s).ports.get q).up = (s.ports.get q).up
    := by
  simp [notifyAll]

@[simp] theorem notifyBureau_ports (n : Notice) (s : State) (q : Port) :
    ((notifyBureau n s).ports.get q).cls = (s.ports.get q).cls
    ∧ ((notifyBureau n s).ports.get q).up = (s.ports.get q).up := by
  simp only [notifyBureau]
  first
    | (simp; done)
    | (simp [PerPort.get_set]; (repeat' split) <;> simp_all; done)

@[simp] theorem sendReply_ports (p : Port) (r : Reply) (s : State) (q : Port) :
    ((sendReply p r s).ports.get q).cls = (s.ports.get q).cls
    ∧ ((sendReply p r s).ports.get q).up = (s.ports.get q).up := by
  simp [sendReply]

@[simp] theorem answer_ports (p : Port) (k : Kind) (tag : Nat) (status : Status) (body : List Byte) (s : State) (q :
    Port) :
    ((answer p k tag status body s).ports.get q).cls = (s.ports.get q).cls
    ∧ ((answer p k tag status body s).ports.get q).up = (s.ports.get q).up := by
  simp [answer]

@[simp] theorem setBusy_ports (p : Port) (r : InFlight) (s : State) (q : Port) :
    ((setBusy p r s).ports.get q).cls = (s.ports.get q).cls ∧ ((setBusy p r s).ports.get q).up = (s.ports.get q).up
    := by
  simp [setBusy]

@[simp] theorem setIdle_ports (p : Port) (s : State) (q : Port) :
    ((setIdle p s).ports.get q).cls = (s.ports.get q).cls ∧ ((setIdle p s).ports.get q).up = (s.ports.get q).up := by
  simp [setIdle]

@[simp] theorem addHalt_keeps (c : HaltCause) (s : State) :
    (addHalt c s).now = s.now ∧ (addHalt c s).choices = s.choices ∧ (addHalt c s).pending = s.pending
    ∧ (addHalt c s).docs = s.docs ∧ (addHalt c s).store = s.store ∧ (addHalt c s).comp.sheet = s.comp.sheet
    ∧ (addHalt c s).comp.layouts = s.comp.layouts ∧ (addHalt c s).comp.nextLayout = s.comp.nextLayout
    ∧ (addHalt c s).comp.group = s.comp.group ∧ (addHalt c s).comp.pauseLimit = s.comp.pauseLimit
    ∧ (addHalt c s).comp.completionLimit = s.comp.completionLimit ∧ (addHalt c s).comp.ageLimit = s.comp.ageLimit
    ∧ (addHalt c s).comp.starveClose = s.comp.starveClose ∧ (addHalt c s).comp.nextSerial = s.comp.nextSerial
    ∧ (addHalt c s).comp.greatest = s.comp.greatest ∧ (addHalt c s).comp.cell = s.comp.cell
    ∧ (addHalt c s).dose = s.dose ∧ (addHalt c s).writer.site = s.writer.site ∧ (addHalt c s).beam = s.beam
    ∧ (addHalt c s).film = s.film ∧ (addHalt c s).index = s.index := by
  simp only [addHalt]
  (repeat' split) <;> simp

@[simp] theorem addHalt_ports (c : HaltCause) (s : State) (q : Port) :
    ((addHalt c s).ports.get q).cls = (s.ports.get q).cls ∧ ((addHalt c s).ports.get q).up = (s.ports.get q).up := by
  simp only [addHalt]
  (repeat' split) <;> simp

@[simp] theorem dropHalt_keeps (c : HaltCause) (s : State) :
    (dropHalt c s).now = s.now ∧ (dropHalt c s).choices = s.choices ∧ (dropHalt c s).pending = s.pending
    ∧ (dropHalt c s).docs = s.docs ∧ (dropHalt c s).store = s.store ∧ (dropHalt c s).comp.sheet = s.comp.sheet
    ∧ (dropHalt c s).comp.layouts = s.comp.layouts ∧ (dropHalt c s).comp.nextLayout = s.comp.nextLayout
    ∧ (dropHalt c s).comp.group = s.comp.group ∧ (dropHalt c s).comp.pauseLimit = s.comp.pauseLimit
    ∧ (dropHalt c s).comp.completionLimit = s.comp.completionLimit ∧ (dropHalt c s).comp.ageLimit = s.comp.ageLimit
    ∧ (dropHalt c s).comp.starveClose = s.comp.starveClose ∧ (dropHalt c s).comp.nextSerial = s.comp.nextSerial
    ∧ (dropHalt c s).comp.greatest = s.comp.greatest ∧ (dropHalt c s).comp.cell = s.comp.cell
    ∧ (dropHalt c s).dose = s.dose ∧ (dropHalt c s).writer.site = s.writer.site ∧ (dropHalt c s).beam = s.beam
    ∧ (dropHalt c s).film = s.film ∧ (dropHalt c s).index = s.index := by
  simp only [dropHalt]
  (repeat' split) <;> simp

@[simp] theorem dropHalt_ports (c : HaltCause) (s : State) (q : Port) :
    ((dropHalt c s).ports.get q).cls = (s.ports.get q).cls ∧ ((dropHalt c s).ports.get q).up = (s.ports.get q).up :=
    by
  simp only [dropHalt]
  (repeat' split) <;> simp

@[simp] theorem abandonWrite_keeps (w : PendingWrite) (s : State) :
    (abandonWrite w s).now = s.now
    ∧ (abandonWrite w s).choices = s.choices ∧ (abandonWrite w s).store.memory = s.store.memory ∧ (abandonWrite w s).pending = s.pending ∧ (abandonWrite w s).ports = s.ports
    ∧ (abandonWrite w s).docs = s.docs ∧ (abandonWrite w s).store.pages = s.store.pages
    ∧ (abandonWrite w s).store.freeList = s.store.freeList ∧ (abandonWrite w s).store.held = s.store.held
    ∧ (abandonWrite w s).store.quota = s.store.quota ∧ (abandonWrite w s).comp = s.comp
    ∧ (abandonWrite w s).dose = s.dose ∧ (abandonWrite w s).writer = s.writer ∧ (abandonWrite w s).beam = s.beam
    ∧ (abandonWrite w s).film = s.film ∧ (abandonWrite w s).index = s.index := by
  simp [abandonWrite]

@[simp] theorem landHead_keeps (before s : State) :
    (landHead before s).now = s.now ∧ (landHead before s).pending = s.pending ∧ (landHead before s).ports = s.ports
    ∧ (landHead before s).docs = s.docs ∧ (landHead before s).store.pages = s.store.pages
    ∧ (landHead before s).store.freeList = s.store.freeList ∧ (landHead before s).store.held = s.store.held
    ∧ (landHead before s).store.blockMap = s.store.blockMap ∧ (landHead before s).store.writes = s.store.writes
    ∧ (landHead before s).store.wait = s.store.wait
    ∧ (landHead before s).store.quota = s.store.quota ∧ (landHead before s).comp = s.comp
    ∧ (landHead before s).dose = s.dose ∧ (landHead before s).writer = s.writer ∧ (landHead before s).beam = s.beam
    ∧ (landHead before s).film = s.film ∧ (landHead before s).index = s.index := by
  simp only [landHead]
  (repeat' split) <;> simp

/-- R84, R90: while the oldest PUT ROWS is still there, or with none, nothing has landed. -/
theorem landHead_of_kept {before s : State} (h : ∀ w, before.store.writes.head? = some w → w ∈ s.store.writes) :
    landHead before s = s := by
  unfold landHead
  cases hw : before.store.writes with
  | nil => rfl
  | cons w l =>
    have := h w (by simp [hw])
    simp only [this, if_true]
    split <;> rfl

@[simp] theorem abandonWrites_keeps (l : List PendingWrite) (s : State) :
    (l.foldl (fun s w => abandonWrite w s) s).now = s.now
    ∧ (l.foldl (fun s w => abandonWrite w s) s).choices = s.choices ∧ (l.foldl (fun s w => abandonWrite w s) s).store.memory = s.store.memory
    ∧ (l.foldl (fun s w => abandonWrite w s) s).pending = s.pending
    ∧ (l.foldl (fun s w => abandonWrite w s) s).ports = s.ports
    ∧ (l.foldl (fun s w => abandonWrite w s) s).docs = s.docs
    ∧ (l.foldl (fun s w => abandonWrite w s) s).store.pages = s.store.pages
    ∧ (l.foldl (fun s w => abandonWrite w s) s).store.freeList = s.store.freeList
    ∧ (l.foldl (fun s w => abandonWrite w s) s).store.held = s.store.held
    ∧ (l.foldl (fun s w => abandonWrite w s) s).store.quota = s.store.quota
    ∧ (l.foldl (fun s w => abandonWrite w s) s).comp = s.comp
    ∧ (l.foldl (fun s w => abandonWrite w s) s).dose = s.dose
    ∧ (l.foldl (fun s w => abandonWrite w s) s).writer = s.writer
    ∧ (l.foldl (fun s w => abandonWrite w s) s).beam = s.beam
    ∧ (l.foldl (fun s w => abandonWrite w s) s).film = s.film
    ∧ (l.foldl (fun s w => abandonWrite w s) s).index = s.index := by
  induction l generalizing s with
  | nil => simp
  | cons a l ih =>
    simp only [List.foldl_cons, ih]
    simp

@[simp] theorem abandonWritesOf_keeps (p : Port) (s : State) :
    (abandonWritesOf p s).now = s.now
    ∧ (abandonWritesOf p s).choices = s.choices ∧ (abandonWritesOf p s).store.memory = s.store.memory ∧ (abandonWritesOf p s).pending = s.pending
    ∧ (abandonWritesOf p s).ports = s.ports ∧ (abandonWritesOf p s).docs = s.docs
    ∧ (abandonWritesOf p s).store.pages = s.store.pages ∧ (abandonWritesOf p s).store.freeList = s.store.freeList
    ∧ (abandonWritesOf p s).store.held = s.store.held ∧ (abandonWritesOf p s).store.quota = s.store.quota
    ∧ (abandonWritesOf p s).comp = s.comp ∧ (abandonWritesOf p s).dose = s.dose
    ∧ (abandonWritesOf p s).writer = s.writer ∧ (abandonWritesOf p s).beam = s.beam
    ∧ (abandonWritesOf p s).film = s.film ∧ (abandonWritesOf p s).index = s.index := by
  simp [abandonWritesOf]

@[simp] theorem refuseWrite_keeps (s : State) (a : PendingWrite) :
    (refuseWrite s a).now = s.now
    ∧ (refuseWrite s a).choices = s.choices ∧ (refuseWrite s a).store.memory = s.store.memory
    ∧ (refuseWrite s a).pending = s.pending
    ∧ (refuseWrite s a).docs = s.docs
    ∧ (refuseWrite s a).store.pages = s.store.pages
    ∧ (refuseWrite s a).store.freeList = s.store.freeList
    ∧ (refuseWrite s a).store.held = s.store.held
    ∧ (refuseWrite s a).store.quota = s.store.quota
    ∧ (refuseWrite s a).comp = s.comp
    ∧ (refuseWrite s a).dose = s.dose
    ∧ (refuseWrite s a).writer = s.writer
    ∧ (refuseWrite s a).beam = s.beam
    ∧ (refuseWrite s a).film = s.film
    ∧ (refuseWrite s a).index = s.index := by
  simp only [refuseWrite]
  simp

@[simp] theorem refuseWrites_keeps (l : List PendingWrite) (s : State) :
    (l.foldl refuseWrite s).now = s.now
    ∧ (l.foldl refuseWrite s).choices = s.choices ∧ (l.foldl refuseWrite s).store.memory = s.store.memory
    ∧ (l.foldl refuseWrite s).pending = s.pending
    ∧ (l.foldl refuseWrite s).docs = s.docs
    ∧ (l.foldl refuseWrite s).store.pages = s.store.pages
    ∧ (l.foldl refuseWrite s).store.freeList = s.store.freeList
    ∧ (l.foldl refuseWrite s).store.held = s.store.held
    ∧ (l.foldl refuseWrite s).store.quota = s.store.quota
    ∧ (l.foldl refuseWrite s).comp = s.comp
    ∧ (l.foldl refuseWrite s).dose = s.dose
    ∧ (l.foldl refuseWrite s).writer = s.writer
    ∧ (l.foldl refuseWrite s).beam = s.beam
    ∧ (l.foldl refuseWrite s).film = s.film
    ∧ (l.foldl refuseWrite s).index = s.index := by
  induction l generalizing s with
  | nil => simp
  | cons a l ih => simp [ih]

@[simp] theorem refuseWrite_ports (s : State) (a : PendingWrite) (q : Port) :
    ((refuseWrite s a).ports.get q).cls = (s.ports.get q).cls
    ∧ ((refuseWrite s a).ports.get q).up = (s.ports.get q).up := by
  simp only [refuseWrite]
  simp

@[simp] theorem refuseWrites_ports (l : List PendingWrite) (s : State) (q : Port) :
    ((l.foldl refuseWrite s).ports.get q).cls = (s.ports.get q).cls
    ∧ ((l.foldl refuseWrite s).ports.get q).up = (s.ports.get q).up := by
  induction l generalizing s with
  | nil => simp
  | cons a l ih => simp [ih]

@[simp] theorem refuseWritesTo_keeps (h : Nat) (s : State) :
    (refuseWritesTo h s).now = s.now
    ∧ (refuseWritesTo h s).choices = s.choices ∧ (refuseWritesTo h s).store.memory = s.store.memory ∧ (refuseWritesTo h s).pending = s.pending ∧ (refuseWritesTo h s).docs = s.docs
    ∧ (refuseWritesTo h s).store.pages = s.store.pages ∧ (refuseWritesTo h s).store.freeList = s.store.freeList
    ∧ (refuseWritesTo h s).store.held = s.store.held ∧ (refuseWritesTo h s).store.quota = s.store.quota
    ∧ (refuseWritesTo h s).comp = s.comp ∧ (refuseWritesTo h s).dose = s.dose
    ∧ (refuseWritesTo h s).writer = s.writer ∧ (refuseWritesTo h s).beam = s.beam
    ∧ (refuseWritesTo h s).film = s.film ∧ (refuseWritesTo h s).index = s.index := by
  simp [refuseWritesTo]

@[simp] theorem refuseWritesTo_ports (h : Nat) (s : State) (q : Port) :
    ((refuseWritesTo h s).ports.get q).cls = (s.ports.get q).cls
    ∧ ((refuseWritesTo h s).ports.get q).up = (s.ports.get q).up := by
  simp [refuseWritesTo]

@[simp] theorem dropPage_keeps (h : Nat) (s : State) :
    (dropPage h s).now = s.now ∧ (dropPage h s).pending = s.pending ∧ (dropPage h s).docs = s.docs
    ∧ (dropPage h s).store.quota = s.store.quota ∧ (dropPage h s).comp = s.comp ∧ (dropPage h s).dose = s.dose
    ∧ (dropPage h s).writer = s.writer ∧ (dropPage h s).beam = s.beam ∧ (dropPage h s).film = s.film
    ∧ (dropPage h s).index = s.index := by
  simp only [dropPage]
  (repeat' split) <;> simp

@[simp] theorem dropPage_ports (h : Nat) (s : State) (q : Port) :
    ((dropPage h s).ports.get q).cls = (s.ports.get q).cls ∧ ((dropPage h s).ports.get q).up = (s.ports.get q).up :=
    by
  simp only [dropPage]
  (repeat' split) <;> simp

@[simp] theorem takeMark_keeps (p : Port) (s : State) :
    (takeMark p s).now = s.now ∧ (takeMark p s).choices = s.choices ∧ (takeMark p s).pending = s.pending
    ∧ (takeMark p s).ports = s.ports ∧ (takeMark p s).docs = s.docs ∧ (takeMark p s).store = s.store
    ∧ (takeMark p s).comp.sheet = s.comp.sheet ∧ (takeMark p s).comp.halts = s.comp.halts
    ∧ (takeMark p s).comp.layouts = s.comp.layouts ∧ (takeMark p s).comp.nextLayout = s.comp.nextLayout
    ∧ (takeMark p s).comp.group = s.comp.group ∧ (takeMark p s).comp.pauseLimit = s.comp.pauseLimit
    ∧ (takeMark p s).comp.completionLimit = s.comp.completionLimit ∧ (takeMark p s).comp.ageLimit = s.comp.ageLimit
    ∧ (takeMark p s).comp.starveClose = s.comp.starveClose ∧ (takeMark p s).comp.nextSerial = s.comp.nextSerial
    ∧ (takeMark p s).comp.greatest = s.comp.greatest ∧ (takeMark p s).comp.cell = s.comp.cell
    ∧ (takeMark p s).dose = s.dose ∧ (takeMark p s).writer = s.writer ∧ (takeMark p s).beam = s.beam
    ∧ (takeMark p s).film = s.film ∧ (takeMark p s).index = s.index := by
  simp only [takeMark]
  (repeat' split) <;> simp

@[simp] theorem runCursor_keeps (p : Port) (n : Nat) (s : State) :
    (runCursor p n s).now = s.now ∧ (runCursor p n s).choices = s.choices ∧ (runCursor p n s).pending = s.pending
    ∧ (runCursor p n s).ports = s.ports ∧ (runCursor p n s).docs.table = s.docs.table
    ∧ (runCursor p n s).store = s.store ∧ (runCursor p n s).comp.sheet = s.comp.sheet
    ∧ (runCursor p n s).comp.halts = s.comp.halts ∧ (runCursor p n s).comp.layouts = s.comp.layouts
    ∧ (runCursor p n s).comp.nextLayout = s.comp.nextLayout ∧ (runCursor p n s).comp.group = s.comp.group
    ∧ (runCursor p n s).comp.pauseLimit = s.comp.pauseLimit
    ∧ (runCursor p n s).comp.completionLimit = s.comp.completionLimit
    ∧ (runCursor p n s).comp.ageLimit = s.comp.ageLimit ∧ (runCursor p n s).comp.starveClose = s.comp.starveClose
    ∧ (runCursor p n s).comp.nextSerial = s.comp.nextSerial ∧ (runCursor p n s).comp.greatest = s.comp.greatest
    ∧ (runCursor p n s).comp.cell = s.comp.cell ∧ (runCursor p n s).dose = s.dose
    ∧ (runCursor p n s).writer = s.writer ∧ (runCursor p n s).beam = s.beam ∧ (runCursor p n s).film = s.film
    ∧ (runCursor p n s).index = s.index := by
  induction n generalizing s with
  | zero => simp [runCursor]
  | succ n ih =>
    simp only [runCursor]
    (repeat' split) <;> simp [ih]

@[simp] theorem advanceCursor_keeps (p : Port) (s : State) :
    (advanceCursor p s).now = s.now ∧ (advanceCursor p s).choices = s.choices
    ∧ (advanceCursor p s).pending = s.pending ∧ (advanceCursor p s).ports = s.ports
    ∧ (advanceCursor p s).docs.table = s.docs.table ∧ (advanceCursor p s).store = s.store
    ∧ (advanceCursor p s).comp.sheet = s.comp.sheet ∧ (advanceCursor p s).comp.halts = s.comp.halts
    ∧ (advanceCursor p s).comp.layouts = s.comp.layouts ∧ (advanceCursor p s).comp.nextLayout = s.comp.nextLayout
    ∧ (advanceCursor p s).comp.group = s.comp.group ∧ (advanceCursor p s).comp.pauseLimit = s.comp.pauseLimit
    ∧ (advanceCursor p s).comp.completionLimit = s.comp.completionLimit
    ∧ (advanceCursor p s).comp.ageLimit = s.comp.ageLimit
    ∧ (advanceCursor p s).comp.starveClose = s.comp.starveClose
    ∧ (advanceCursor p s).comp.nextSerial = s.comp.nextSerial ∧ (advanceCursor p s).comp.greatest = s.comp.greatest
    ∧ (advanceCursor p s).comp.cell = s.comp.cell ∧ (advanceCursor p s).dose = s.dose
    ∧ (advanceCursor p s).writer = s.writer ∧ (advanceCursor p s).beam = s.beam ∧ (advanceCursor p s).film = s.film
    ∧ (advanceCursor p s).index = s.index := by
  simp [advanceCursor]

@[simp] theorem removeItem_keeps (p : Port) (h : Nat) (s : State) :
    (removeItem p h s).now = s.now ∧ (removeItem p h s).choices = s.choices ∧ (removeItem p h s).pending = s.pending
    ∧ (removeItem p h s).ports = s.ports ∧ (removeItem p h s).docs.table = s.docs.table
    ∧ (removeItem p h s).store = s.store ∧ (removeItem p h s).comp.sheet = s.comp.sheet
    ∧ (removeItem p h s).comp.halts = s.comp.halts ∧ (removeItem p h s).comp.layouts = s.comp.layouts
    ∧ (removeItem p h s).comp.nextLayout = s.comp.nextLayout ∧ (removeItem p h s).comp.group = s.comp.group
    ∧ (removeItem p h s).comp.pauseLimit = s.comp.pauseLimit
    ∧ (removeItem p h s).comp.completionLimit = s.comp.completionLimit
    ∧ (removeItem p h s).comp.ageLimit = s.comp.ageLimit ∧ (removeItem p h s).comp.starveClose = s.comp.starveClose
    ∧ (removeItem p h s).comp.nextSerial = s.comp.nextSerial ∧ (removeItem p h s).comp.greatest = s.comp.greatest
    ∧ (removeItem p h s).comp.cell = s.comp.cell ∧ (removeItem p h s).dose = s.dose
    ∧ (removeItem p h s).writer = s.writer ∧ (removeItem p h s).beam = s.beam ∧ (removeItem p h s).film = s.film
    ∧ (removeItem p h s).index = s.index := by
  simp only [removeItem]
  (repeat' split) <;> simp

@[simp] theorem dropPages_keeps (l : List Nat) (s : State) :
    (l.foldl (fun s h => dropPage h s) s).now = s.now ∧ (l.foldl (fun s h => dropPage h s) s).pending = s.pending
    ∧ (l.foldl (fun s h => dropPage h s) s).docs = s.docs
    ∧ (l.foldl (fun s h => dropPage h s) s).store.quota = s.store.quota
    ∧ (l.foldl (fun s h => dropPage h s) s).comp = s.comp ∧ (l.foldl (fun s h => dropPage h s) s).dose = s.dose
    ∧ (l.foldl (fun s h => dropPage h s) s).writer = s.writer ∧ (l.foldl (fun s h => dropPage h s) s).beam = s.beam
    ∧ (l.foldl (fun s h => dropPage h s) s).film = s.film ∧ (l.foldl (fun s h => dropPage h s) s).index = s.index :=
    by
  induction l generalizing s with
  | nil => simp
  | cons a l ih =>
    simp only [List.foldl_cons, ih]
    simp

@[simp] theorem dropPages_ports (l : List Nat) (s : State) (q : Port) :
    ((l.foldl (fun s h => dropPage h s) s).ports.get q).cls = (s.ports.get q).cls
    ∧ ((l.foldl (fun s h => dropPage h s) s).ports.get q).up = (s.ports.get q).up := by
  induction l generalizing s with
  | nil => simp
  | cons a l ih =>
    simp only [List.foldl_cons, ih]
    simp

@[simp] theorem releaseDoc_keeps (h : Nat) (s : State) :
    (releaseDoc h s).now = s.now ∧ (releaseDoc h s).pending = s.pending
    ∧ (releaseDoc h s).docs.queues = s.docs.queues ∧ (releaseDoc h s).store.quota = s.store.quota
    ∧ (releaseDoc h s).comp = s.comp ∧ (releaseDoc h s).dose = s.dose ∧ (releaseDoc h s).writer = s.writer
    ∧ (releaseDoc h s).beam = s.beam ∧ (releaseDoc h s).film = s.film ∧ (releaseDoc h s).index = s.index := by
  simp only [releaseDoc]
  (repeat' split) <;> simp

@[simp] theorem releaseDoc_ports (h : Nat) (s : State) (q : Port) :
    ((releaseDoc h s).ports.get q).cls = (s.ports.get q).cls
    ∧ ((releaseDoc h s).ports.get q).up = (s.ports.get q).up := by
  simp only [releaseDoc]
  (repeat' split) <;> simp

@[simp] theorem testRelease_keeps (h : Nat) (s : State) :
    (testRelease h s).now = s.now ∧ (testRelease h s).pending = s.pending
    ∧ (testRelease h s).docs.queues = s.docs.queues ∧ (testRelease h s).store.quota = s.store.quota
    ∧ (testRelease h s).comp = s.comp ∧ (testRelease h s).dose = s.dose ∧ (testRelease h s).writer = s.writer
    ∧ (testRelease h s).beam = s.beam ∧ (testRelease h s).film = s.film ∧ (testRelease h s).index = s.index := by
  simp only [testRelease]
  (repeat' split) <;> simp

@[simp] theorem testRelease_ports (h : Nat) (s : State) (q : Port) :
    ((testRelease h s).ports.get q).cls = (s.ports.get q).cls
    ∧ ((testRelease h s).ports.get q).up = (s.ports.get q).up := by
  simp only [testRelease]
  (repeat' split) <;> simp

@[simp] theorem finalizeDoc_keeps (h : Nat) (st : DocState) (reason : Option Reason) (s : State) :
    (finalizeDoc h st reason s).now = s.now ∧ (finalizeDoc h st reason s).pending = s.pending
    ∧ (finalizeDoc h st reason s).store.quota = s.store.quota
    ∧ (finalizeDoc h st reason s).comp.sheet = s.comp.sheet ∧ (finalizeDoc h st reason s).comp.halts = s.comp.halts
    ∧ (finalizeDoc h st reason s).comp.layouts = s.comp.layouts
    ∧ (finalizeDoc h st reason s).comp.nextLayout = s.comp.nextLayout
    ∧ (finalizeDoc h st reason s).comp.group = s.comp.group
    ∧ (finalizeDoc h st reason s).comp.pauseLimit = s.comp.pauseLimit
    ∧ (finalizeDoc h st reason s).comp.completionLimit = s.comp.completionLimit
    ∧ (finalizeDoc h st reason s).comp.ageLimit = s.comp.ageLimit
    ∧ (finalizeDoc h st reason s).comp.starveClose = s.comp.starveClose
    ∧ (finalizeDoc h st reason s).comp.nextSerial = s.comp.nextSerial
    ∧ (finalizeDoc h st reason s).comp.greatest = s.comp.greatest
    ∧ (finalizeDoc h st reason s).comp.cell = s.comp.cell ∧ (finalizeDoc h st reason s).dose = s.dose
    ∧ (finalizeDoc h st reason s).writer = s.writer ∧ (finalizeDoc h st reason s).beam = s.beam
    ∧ (finalizeDoc h st reason s).film = s.film ∧ (finalizeDoc h st reason s).index = s.index := by
  simp only [finalizeDoc]
  (repeat' split) <;> simp

@[simp] theorem finalizeDoc_ports (h : Nat) (st : DocState) (reason : Option Reason) (s : State) (q : Port) :
    ((finalizeDoc h st reason s).ports.get q).cls = (s.ports.get q).cls
    ∧ ((finalizeDoc h st reason s).ports.get q).up = (s.ports.get q).up := by
  simp only [finalizeDoc]
  (repeat' split) <;> simp

@[simp] theorem detachFrom_keeps (h : Nat) (s : State) (a : Nat) :
    (detachFrom h s a).now = s.now
    ∧ (detachFrom h s a).choices = s.choices
    ∧ (detachFrom h s a).pending = s.pending
    ∧ (detachFrom h s a).ports = s.ports
    ∧ (detachFrom h s a).docs = s.docs
    ∧ (detachFrom h s a).store.memory = s.store.memory
    ∧ (detachFrom h s a).store.freeList = s.store.freeList
    ∧ (detachFrom h s a).store.held = s.store.held
    ∧ (detachFrom h s a).store.quota = s.store.quota
    ∧ (detachFrom h s a).comp = s.comp
    ∧ (detachFrom h s a).dose = s.dose
    ∧ (detachFrom h s a).writer = s.writer
    ∧ (detachFrom h s a).beam = s.beam
    ∧ (detachFrom h s a).film = s.film
    ∧ (detachFrom h s a).index = s.index := by
  simp only [detachFrom]
  (repeat' split) <;> simp

@[simp] theorem detachAll_keeps (h : Nat) (l : List Nat) (s : State) :
    (l.foldl (detachFrom h) s).now = s.now
    ∧ (l.foldl (detachFrom h) s).choices = s.choices
    ∧ (l.foldl (detachFrom h) s).pending = s.pending
    ∧ (l.foldl (detachFrom h) s).ports = s.ports
    ∧ (l.foldl (detachFrom h) s).docs = s.docs
    ∧ (l.foldl (detachFrom h) s).store.memory = s.store.memory
    ∧ (l.foldl (detachFrom h) s).store.freeList = s.store.freeList
    ∧ (l.foldl (detachFrom h) s).store.held = s.store.held
    ∧ (l.foldl (detachFrom h) s).store.quota = s.store.quota
    ∧ (l.foldl (detachFrom h) s).comp = s.comp
    ∧ (l.foldl (detachFrom h) s).dose = s.dose
    ∧ (l.foldl (detachFrom h) s).writer = s.writer
    ∧ (l.foldl (detachFrom h) s).beam = s.beam
    ∧ (l.foldl (detachFrom h) s).film = s.film
    ∧ (l.foldl (detachFrom h) s).index = s.index := by
  induction l generalizing s with
  | nil => simp
  | cons a l ih => simp [ih]

@[simp] theorem detachPages_keeps (h : Nat) (d : Doc) (s : State) :
    (detachPages h d s).now = s.now ∧ (detachPages h d s).choices = s.choices
    ∧ (detachPages h d s).pending = s.pending ∧ (detachPages h d s).ports = s.ports
    ∧ (detachPages h d s).docs = s.docs ∧ (detachPages h d s).store.memory = s.store.memory
    ∧ (detachPages h d s).store.freeList = s.store.freeList ∧ (detachPages h d s).store.held = s.store.held
    ∧ (detachPages h d s).store.quota = s.store.quota ∧ (detachPages h d s).comp = s.comp
    ∧ (detachPages h d s).dose = s.dose ∧ (detachPages h d s).writer = s.writer ∧ (detachPages h d s).beam = s.beam
    ∧ (detachPages h d s).film = s.film ∧ (detachPages h d s).index = s.index :=
  detachAll_keeps h _ s

end Sys2Proof.Machine
end

