-- ==== Sys2Proof/Laws/Blocks.lean ====
section
/-! SUPPORT. Frames: what each operation of the Beam Monitor, the Film Transport, the arbiter, the Composer and the Frame Writer
leaves as it was. `x_keeps` names
every field that the operation x keeps in every state, `x_ports` that the class and the link state of every port are
kept. A field that is not named may change. -/

namespace Sys2Proof.Machine

@[simp] theorem kickBeam_keeps (s : State) :
    (kickBeam s).now = s.now ∧ (kickBeam s).choices = s.choices ∧ (kickBeam s).pending = s.pending
    ∧ (kickBeam s).ports = s.ports ∧ (kickBeam s).docs = s.docs ∧ (kickBeam s).store = s.store
    ∧ (kickBeam s).comp = s.comp ∧ (kickBeam s).dose = s.dose ∧ (kickBeam s).writer = s.writer
    ∧ (kickBeam s).beam.state = s.beam.state ∧ (kickBeam s).beam.floorIndex = s.beam.floorIndex
    ∧ (kickBeam s).beam.drift = s.beam.drift ∧ (kickBeam s).film = s.film ∧ (kickBeam s).index = s.index := by
  simp only [kickBeam]
  (repeat' split) <;> simp

@[simp] theorem addRequester_keeps (r : Requester) (s : State) :
    (addRequester r s).now = s.now ∧ (addRequester r s).choices = s.choices ∧ (addRequester r s).pending = s.pending
    ∧ (addRequester r s).ports = s.ports ∧ (addRequester r s).docs = s.docs ∧ (addRequester r s).store = s.store
    ∧ (addRequester r s).comp = s.comp ∧ (addRequester r s).dose = s.dose ∧ (addRequester r s).writer = s.writer
    ∧ (addRequester r s).beam.state = s.beam.state ∧ (addRequester r s).beam.floorIndex = s.beam.floorIndex
    ∧ (addRequester r s).beam.drift = s.beam.drift ∧ (addRequester r s).film = s.film
    ∧ (addRequester r s).index = s.index := by
  simp only [addRequester]
  (repeat' split) <;> simp

@[simp] theorem joinMeasurement_keeps (r : Requester) (s : State) :
    (joinMeasurement r s).now = s.now ∧ (joinMeasurement r s).choices = s.choices
    ∧ (joinMeasurement r s).pending = s.pending ∧ (joinMeasurement r s).ports = s.ports
    ∧ (joinMeasurement r s).docs = s.docs ∧ (joinMeasurement r s).store = s.store
    ∧ (joinMeasurement r s).comp = s.comp ∧ (joinMeasurement r s).dose = s.dose
    ∧ (joinMeasurement r s).writer = s.writer ∧ (joinMeasurement r s).beam.state = s.beam.state
    ∧ (joinMeasurement r s).beam.floorIndex = s.beam.floorIndex ∧ (joinMeasurement r s).beam.drift = s.beam.drift
    ∧ (joinMeasurement r s).film = s.film ∧ (joinMeasurement r s).index = s.index := by
  simp [joinMeasurement]

@[simp] theorem reportArrival_keeps (live : Bool) (s : State) :
    (reportArrival live s).now = s.now ∧ (reportArrival live s).choices = s.choices
    ∧ (reportArrival live s).pending = s.pending ∧ (reportArrival live s).ports = s.ports
    ∧ (reportArrival live s).docs = s.docs ∧ (reportArrival live s).store = s.store
    ∧ (reportArrival live s).comp = s.comp ∧ (reportArrival live s).dose = s.dose
    ∧ (reportArrival live s).writer.mode = s.writer.mode ∧ (reportArrival live s).writer.site = s.writer.site
    ∧ (reportArrival live s).beam.state = s.beam.state ∧ (reportArrival live s).beam.floorIndex = s.beam.floorIndex
    ∧ (reportArrival live s).beam.drift = s.beam.drift ∧ (reportArrival live s).film = s.film
    ∧ (reportArrival live s).index = s.index := by
  simp only [reportArrival]
  (repeat' split) <;> simp

@[simp] theorem beginOp_keeps (op : Operation) (s : State) :
    (beginOp op s).now = s.now ∧ (beginOp op s).choices = s.choices ∧ (beginOp op s).pending = s.pending
    ∧ (beginOp op s).ports = s.ports ∧ (beginOp op s).docs = s.docs ∧ (beginOp op s).store = s.store
    ∧ (beginOp op s).comp = s.comp ∧ (beginOp op s).dose = s.dose ∧ (beginOp op s).writer.mode = s.writer.mode
    ∧ (beginOp op s).writer.site = s.writer.site ∧ (beginOp op s).beam.state = s.beam.state
    ∧ (beginOp op s).beam.floorIndex = s.beam.floorIndex ∧ (beginOp op s).beam.drift = s.beam.drift
    ∧ (beginOp op s).film.film = s.film.film ∧ (beginOp op s).film.count = s.film.count
    ∧ (beginOp op s).film.lot = s.film.lot ∧ (beginOp op s).film.factor = s.film.factor
    ∧ (beginOp op s).index = s.index := by
  simp only [beginOp]
  (repeat' split) <;> simp

/-- Taking an operation changes nothing but the request queue. -/
theorem nextOp_keeps {s s' : State} {op : Operation} (h : nextOp s = some (s', op)) :
    ∃ q, s' = { s with film := { s.film with queue := q } } := by
  unfold nextOp headOp at h
  (repeat' split at h) <;> cases h <;> exact ⟨_, rfl⟩

@[simp] theorem pumpFor_keeps (n : Nat) (s : State) :
    (pumpFor n s).now = s.now ∧ (pumpFor n s).choices = s.choices ∧ (pumpFor n s).pending = s.pending
    ∧ (pumpFor n s).ports = s.ports ∧ (pumpFor n s).docs = s.docs ∧ (pumpFor n s).store = s.store
    ∧ (pumpFor n s).comp = s.comp ∧ (pumpFor n s).dose = s.dose ∧ (pumpFor n s).writer.mode = s.writer.mode
    ∧ (pumpFor n s).writer.site = s.writer.site ∧ (pumpFor n s).beam.state = s.beam.state
    ∧ (pumpFor n s).beam.floorIndex = s.beam.floorIndex ∧ (pumpFor n s).beam.drift = s.beam.drift
    ∧ (pumpFor n s).film.film = s.film.film ∧ (pumpFor n s).film.count = s.film.count
    ∧ (pumpFor n s).film.lot = s.film.lot ∧ (pumpFor n s).film.factor = s.film.factor
    ∧ (pumpFor n s).index = s.index := by
  induction n generalizing s with
  | zero => simp [pumpFor]
  | succ n ih =>
    simp only [pumpFor]
    split
    · next s' op hn =>
      obtain ⟨q, rfl⟩ := nextOp_keeps hn
      simp [ih]
    · simp

@[simp] theorem pump_keeps (s : State) :
    (pump s).now = s.now ∧ (pump s).choices = s.choices ∧ (pump s).pending = s.pending ∧ (pump s).ports = s.ports
    ∧ (pump s).docs = s.docs ∧ (pump s).store = s.store ∧ (pump s).comp = s.comp ∧ (pump s).dose = s.dose
    ∧ (pump s).writer.mode = s.writer.mode ∧ (pump s).writer.site = s.writer.site
    ∧ (pump s).beam.state = s.beam.state ∧ (pump s).beam.floorIndex = s.beam.floorIndex
    ∧ (pump s).beam.drift = s.beam.drift ∧ (pump s).film.film = s.film.film ∧ (pump s).film.count = s.film.count
    ∧ (pump s).film.lot = s.film.lot ∧ (pump s).film.factor = s.film.factor ∧ (pump s).index = s.index := by
  simp [pump]

@[simp] theorem noteGrant_keeps (s : State) :
    (noteGrant s).now = s.now ∧ (noteGrant s).choices = s.choices ∧ (noteGrant s).pending = s.pending
    ∧ (noteGrant s).ports = s.ports ∧ (noteGrant s).docs = s.docs ∧ (noteGrant s).store = s.store
    ∧ (noteGrant s).comp.sheet = s.comp.sheet ∧ (noteGrant s).comp.halts = s.comp.halts
    ∧ (noteGrant s).comp.layouts = s.comp.layouts ∧ (noteGrant s).comp.nextLayout = s.comp.nextLayout
    ∧ (noteGrant s).comp.group = s.comp.group ∧ (noteGrant s).comp.pauseLimit = s.comp.pauseLimit
    ∧ (noteGrant s).comp.completionLimit = s.comp.completionLimit ∧ (noteGrant s).comp.ageLimit = s.comp.ageLimit
    ∧ (noteGrant s).comp.starveClose = s.comp.starveClose ∧ (noteGrant s).comp.nextSerial = s.comp.nextSerial
    ∧ (noteGrant s).comp.greatest = s.comp.greatest ∧ (noteGrant s).comp.cell = s.comp.cell
    ∧ (noteGrant s).dose = s.dose ∧ (noteGrant s).writer = s.writer ∧ (noteGrant s).beam = s.beam
    ∧ (noteGrant s).film = s.film ∧ (noteGrant s).index = s.index := by
  simp only [noteGrant]
  (repeat' split) <;> simp

@[simp] theorem grantDocFrames_keeps (h : Nat) (d : Doc) (r : SheetRec) (frames : List Nat) (s : State) :
    (grantDocFrames h d r frames s).now = s.now ∧ (grantDocFrames h d r frames s).choices = s.choices
    ∧ (grantDocFrames h d r frames s).pending = s.pending
    ∧ (grantDocFrames h d r frames s).docs.queues = s.docs.queues ∧ (grantDocFrames h d r frames s).store = s.store
    ∧ (grantDocFrames h d r frames s).comp.sheet = s.comp.sheet
    ∧ (grantDocFrames h d r frames s).comp.halts = s.comp.halts
    ∧ (grantDocFrames h d r frames s).comp.layouts = s.comp.layouts
    ∧ (grantDocFrames h d r frames s).comp.nextLayout = s.comp.nextLayout
    ∧ (grantDocFrames h d r frames s).comp.group = s.comp.group
    ∧ (grantDocFrames h d r frames s).comp.pauseLimit = s.comp.pauseLimit
    ∧ (grantDocFrames h d r frames s).comp.completionLimit = s.comp.completionLimit
    ∧ (grantDocFrames h d r frames s).comp.ageLimit = s.comp.ageLimit
    ∧ (grantDocFrames h d r frames s).comp.starveClose = s.comp.starveClose
    ∧ (grantDocFrames h d r frames s).comp.nextSerial = s.comp.nextSerial
    ∧ (grantDocFrames h d r frames s).comp.greatest = s.comp.greatest
    ∧ (grantDocFrames h d r frames s).comp.cell = s.comp.cell ∧ (grantDocFrames h d r frames s).dose = s.dose
    ∧ (grantDocFrames h d r frames s).writer = s.writer ∧ (grantDocFrames h d r frames s).beam = s.beam
    ∧ (grantDocFrames h d r frames s).film = s.film ∧ (grantDocFrames h d r frames s).index.ring = s.index.ring
    ∧ (grantDocFrames h d r frames s).index.template = s.index.template := by
  simp [grantDocFrames]

@[simp] theorem grantDocFrames_ports (h : Nat) (d : Doc) (r : SheetRec) (frames : List Nat) (s : State) (q : Port) :
    ((grantDocFrames h d r frames s).ports.get q).cls = (s.ports.get q).cls
    ∧ ((grantDocFrames h d r frames s).ports.get q).up = (s.ports.get q).up := by
  simp [grantDocFrames]

@[simp] theorem grantRetakeFrame_keeps (t : Retake) (d : Doc) (r : SheetRec) (frame : Nat) (s : State) :
    (grantRetakeFrame t d r frame s).now = s.now ∧ (grantRetakeFrame t d r frame s).choices = s.choices
    ∧ (grantRetakeFrame t d r frame s).pending = s.pending
    ∧ (grantRetakeFrame t d r frame s).docs.queues = s.docs.queues
    ∧ (grantRetakeFrame t d r frame s).store = s.store ∧ (grantRetakeFrame t d r frame s).comp.sheet = s.comp.sheet
    ∧ (grantRetakeFrame t d r frame s).comp.halts = s.comp.halts
    ∧ (grantRetakeFrame t d r frame s).comp.layouts = s.comp.layouts
    ∧ (grantRetakeFrame t d r frame s).comp.nextLayout = s.comp.nextLayout
    ∧ (grantRetakeFrame t d r frame s).comp.group = s.comp.group
    ∧ (grantRetakeFrame t d r frame s).comp.pauseLimit = s.comp.pauseLimit
    ∧ (grantRetakeFrame t d r frame s).comp.completionLimit = s.comp.completionLimit
    ∧ (grantRetakeFrame t d r frame s).comp.ageLimit = s.comp.ageLimit
    ∧ (grantRetakeFrame t d r frame s).comp.starveClose = s.comp.starveClose
    ∧ (grantRetakeFrame t d r frame s).comp.nextSerial = s.comp.nextSerial
    ∧ (grantRetakeFrame t d r frame s).comp.greatest = s.comp.greatest
    ∧ (grantRetakeFrame t d r frame s).comp.cell = s.comp.cell ∧ (grantRetakeFrame t d r frame s).dose = s.dose
    ∧ (grantRetakeFrame t d r frame s).writer = s.writer ∧ (grantRetakeFrame t d r frame s).beam = s.beam
    ∧ (grantRetakeFrame t d r frame s).film = s.film ∧ (grantRetakeFrame t d r frame s).index.ring = s.index.ring
    ∧ (grantRetakeFrame t d r frame s).index.template = s.index.template := by
  simp [grantRetakeFrame]

@[simp] theorem grantRetakeFrame_ports (t : Retake) (d : Doc) (r : SheetRec) (frame : Nat) (s : State) (q : Port) :
    ((grantRetakeFrame t d r frame s).ports.get q).cls = (s.ports.get q).cls
    ∧ ((grantRetakeFrame t d r frame s).ports.get q).up = (s.ports.get q).up := by
  simp [grantRetakeFrame]

@[simp] theorem closeTest_keeps (s : State) :
    (closeTest s).now = s.now ∧ (closeTest s).choices = s.choices ∧ (closeTest s).pending = s.pending
    ∧ (closeTest s).ports = s.ports ∧ (closeTest s).docs = s.docs ∧ (closeTest s).store = s.store
    ∧ (closeTest s).comp.halts = s.comp.halts ∧ (closeTest s).comp.layouts = s.comp.layouts
    ∧ (closeTest s).comp.nextLayout = s.comp.nextLayout ∧ (closeTest s).comp.group = s.comp.group
    ∧ (closeTest s).comp.pauseLimit = s.comp.pauseLimit
    ∧ (closeTest s).comp.completionLimit = s.comp.completionLimit ∧ (closeTest s).comp.ageLimit = s.comp.ageLimit
    ∧ (closeTest s).comp.starveClose = s.comp.starveClose ∧ (closeTest s).comp.nextSerial = s.comp.nextSerial
    ∧ (closeTest s).comp.greatest = s.comp.greatest ∧ (closeTest s).comp.cell = s.comp.cell
    ∧ (closeTest s).dose = s.dose ∧ (closeTest s).writer = s.writer ∧ (closeTest s).beam = s.beam
    ∧ (closeTest s).film = s.film ∧ (closeTest s).index.ring = s.index.ring
    ∧ (closeTest s).index.template = s.index.template := by
  simp only [closeTest]
  (repeat' split) <;> simp

@[simp] theorem closeIfChanged_keeps (before s : State) :
    (closeIfChanged before s).now = s.now ∧ (closeIfChanged before s).choices = s.choices
    ∧ (closeIfChanged before s).pending = s.pending ∧ (closeIfChanged before s).ports = s.ports
    ∧ (closeIfChanged before s).docs = s.docs ∧ (closeIfChanged before s).store = s.store
    ∧ (closeIfChanged before s).comp.halts = s.comp.halts ∧ (closeIfChanged before s).comp.layouts = s.comp.layouts
    ∧ (closeIfChanged before s).comp.nextLayout = s.comp.nextLayout
    ∧ (closeIfChanged before s).comp.group = s.comp.group
    ∧ (closeIfChanged before s).comp.pauseLimit = s.comp.pauseLimit
    ∧ (closeIfChanged before s).comp.completionLimit = s.comp.completionLimit
    ∧ (closeIfChanged before s).comp.ageLimit = s.comp.ageLimit
    ∧ (closeIfChanged before s).comp.starveClose = s.comp.starveClose
    ∧ (closeIfChanged before s).comp.nextSerial = s.comp.nextSerial
    ∧ (closeIfChanged before s).comp.greatest = s.comp.greatest ∧ (closeIfChanged before s).comp.cell = s.comp.cell
    ∧ (closeIfChanged before s).dose = s.dose ∧ (closeIfChanged before s).writer = s.writer
    ∧ (closeIfChanged before s).beam = s.beam ∧ (closeIfChanged before s).film = s.film
    ∧ (closeIfChanged before s).index.ring = s.index.ring
    ∧ (closeIfChanged before s).index.template = s.index.template := by
  simp only [closeIfChanged]
  (repeat' split) <;> simp

@[simp] theorem triggerRetakes_keeps (s : State) :
    (triggerRetakes s).now = s.now ∧ (triggerRetakes s).choices = s.choices ∧ (triggerRetakes s).pending = s.pending
    ∧ (triggerRetakes s).ports = s.ports ∧ (triggerRetakes s).docs = s.docs ∧ (triggerRetakes s).store = s.store
    ∧ (triggerRetakes s).comp.sheet = s.comp.sheet ∧ (triggerRetakes s).comp.halts = s.comp.halts
    ∧ (triggerRetakes s).comp.layouts = s.comp.layouts ∧ (triggerRetakes s).comp.nextLayout = s.comp.nextLayout
    ∧ (triggerRetakes s).comp.group = s.comp.group ∧ (triggerRetakes s).comp.pauseLimit = s.comp.pauseLimit
    ∧ (triggerRetakes s).comp.completionLimit = s.comp.completionLimit
    ∧ (triggerRetakes s).comp.ageLimit = s.comp.ageLimit ∧ (triggerRetakes s).comp.starveClose = s.comp.starveClose
    ∧ (triggerRetakes s).comp.nextSerial = s.comp.nextSerial ∧ (triggerRetakes s).comp.greatest = s.comp.greatest
    ∧ (triggerRetakes s).comp.cell = s.comp.cell ∧ (triggerRetakes s).dose = s.dose
    ∧ (triggerRetakes s).writer = s.writer ∧ (triggerRetakes s).beam = s.beam ∧ (triggerRetakes s).film = s.film
    ∧ (triggerRetakes s).index = s.index := by
  simp only [triggerRetakes]
  (repeat' split) <;> simp

@[simp] theorem triggerPorts_keeps (s : State) :
    (triggerPorts s).now = s.now ∧ (triggerPorts s).choices = s.choices ∧ (triggerPorts s).pending = s.pending
    ∧ (triggerPorts s).ports = s.ports ∧ (triggerPorts s).docs = s.docs ∧ (triggerPorts s).store = s.store
    ∧ (triggerPorts s).comp.sheet = s.comp.sheet ∧ (triggerPorts s).comp.halts = s.comp.halts
    ∧ (triggerPorts s).comp.layouts = s.comp.layouts ∧ (triggerPorts s).comp.nextLayout = s.comp.nextLayout
    ∧ (triggerPorts s).comp.group = s.comp.group ∧ (triggerPorts s).comp.pauseLimit = s.comp.pauseLimit
    ∧ (triggerPorts s).comp.completionLimit = s.comp.completionLimit
    ∧ (triggerPorts s).comp.ageLimit = s.comp.ageLimit ∧ (triggerPorts s).comp.starveClose = s.comp.starveClose
    ∧ (triggerPorts s).comp.nextSerial = s.comp.nextSerial ∧ (triggerPorts s).comp.greatest = s.comp.greatest
    ∧ (triggerPorts s).comp.cell = s.comp.cell ∧ (triggerPorts s).dose = s.dose ∧ (triggerPorts s).writer = s.writer
    ∧ (triggerPorts s).beam = s.beam ∧ (triggerPorts s).film = s.film ∧ (triggerPorts s).index = s.index := by
  simp only [triggerPorts]
  (repeat' split) <;> simp

@[simp] theorem reachStep_keeps (s : State) :
    (reachStep s).now = s.now ∧ (reachStep s).choices = s.choices ∧ (reachStep s).pending = s.pending
    ∧ (reachStep s).ports = s.ports ∧ (reachStep s).docs = s.docs ∧ (reachStep s).store = s.store
    ∧ (reachStep s).comp.sheet = s.comp.sheet ∧ (reachStep s).comp.halts = s.comp.halts
    ∧ (reachStep s).comp.layouts = s.comp.layouts ∧ (reachStep s).comp.nextLayout = s.comp.nextLayout
    ∧ (reachStep s).comp.group = s.comp.group ∧ (reachStep s).comp.pauseLimit = s.comp.pauseLimit
    ∧ (reachStep s).comp.completionLimit = s.comp.completionLimit
    ∧ (reachStep s).comp.ageLimit = s.comp.ageLimit ∧ (reachStep s).comp.starveClose = s.comp.starveClose
    ∧ (reachStep s).comp.nextSerial = s.comp.nextSerial ∧ (reachStep s).comp.greatest = s.comp.greatest
    ∧ (reachStep s).comp.cell = s.comp.cell ∧ (reachStep s).dose = s.dose ∧ (reachStep s).writer = s.writer
    ∧ (reachStep s).beam = s.beam ∧ (reachStep s).film = s.film ∧ (reachStep s).index = s.index := by
  simp only [reachStep]
  (repeat' split) <;> simp

@[simp] theorem serveRetakes_keeps (s : State) :
    (serveRetakes s).now = s.now ∧ (serveRetakes s).choices = s.choices ∧ (serveRetakes s).pending = s.pending
    ∧ (serveRetakes s).ports = s.ports ∧ (serveRetakes s).docs = s.docs ∧ (serveRetakes s).store = s.store
    ∧ (serveRetakes s).comp.sheet = s.comp.sheet ∧ (serveRetakes s).comp.halts = s.comp.halts
    ∧ (serveRetakes s).comp.layouts = s.comp.layouts ∧ (serveRetakes s).comp.nextLayout = s.comp.nextLayout
    ∧ (serveRetakes s).comp.group = s.comp.group ∧ (serveRetakes s).comp.pauseLimit = s.comp.pauseLimit
    ∧ (serveRetakes s).comp.completionLimit = s.comp.completionLimit
    ∧ (serveRetakes s).comp.ageLimit = s.comp.ageLimit ∧ (serveRetakes s).comp.starveClose = s.comp.starveClose
    ∧ (serveRetakes s).comp.nextSerial = s.comp.nextSerial ∧ (serveRetakes s).comp.greatest = s.comp.greatest
    ∧ (serveRetakes s).comp.cell = s.comp.cell ∧ (serveRetakes s).dose = s.dose ∧ (serveRetakes s).writer = s.writer
    ∧ (serveRetakes s).beam = s.beam ∧ (serveRetakes s).film = s.film ∧ (serveRetakes s).index = s.index := by
  simp only [serveRetakes]
  (repeat' split) <;> simp

@[simp] theorem stopCompletion_keeps (s : State) :
    (stopCompletion s).now = s.now ∧ (stopCompletion s).choices = s.choices ∧ (stopCompletion s).pending = s.pending
    ∧ (stopCompletion s).ports = s.ports ∧ (stopCompletion s).docs = s.docs ∧ (stopCompletion s).store = s.store
    ∧ (stopCompletion s).comp.sheet = s.comp.sheet ∧ (stopCompletion s).comp.halts = s.comp.halts
    ∧ (stopCompletion s).comp.layouts = s.comp.layouts ∧ (stopCompletion s).comp.nextLayout = s.comp.nextLayout
    ∧ (stopCompletion s).comp.group = s.comp.group ∧ (stopCompletion s).comp.pauseLimit = s.comp.pauseLimit
    ∧ (stopCompletion s).comp.completionLimit = s.comp.completionLimit
    ∧ (stopCompletion s).comp.ageLimit = s.comp.ageLimit ∧ (stopCompletion s).comp.starveClose = s.comp.starveClose
    ∧ (stopCompletion s).comp.nextSerial = s.comp.nextSerial ∧ (stopCompletion s).comp.greatest = s.comp.greatest
    ∧ (stopCompletion s).comp.cell = s.comp.cell ∧ (stopCompletion s).dose = s.dose
    ∧ (stopCompletion s).writer = s.writer ∧ (stopCompletion s).beam = s.beam ∧ (stopCompletion s).film = s.film
    ∧ (stopCompletion s).index = s.index := by
  simp only [stopCompletion]
  (repeat' split) <;> simp

@[simp] theorem passageTest_keeps (s : State) :
    (passageTest s).now = s.now ∧ (passageTest s).choices = s.choices ∧ (passageTest s).pending = s.pending
    ∧ (passageTest s).ports = s.ports ∧ (passageTest s).docs = s.docs ∧ (passageTest s).store = s.store
    ∧ (passageTest s).comp.halts = s.comp.halts ∧ (passageTest s).comp.layouts = s.comp.layouts
    ∧ (passageTest s).comp.nextLayout = s.comp.nextLayout ∧ (passageTest s).comp.group = s.comp.group
    ∧ (passageTest s).comp.pauseLimit = s.comp.pauseLimit
    ∧ (passageTest s).comp.completionLimit = s.comp.completionLimit
    ∧ (passageTest s).comp.ageLimit = s.comp.ageLimit ∧ (passageTest s).comp.starveClose = s.comp.starveClose
    ∧ (passageTest s).comp.nextSerial = s.comp.nextSerial ∧ (passageTest s).comp.greatest = s.comp.greatest
    ∧ (passageTest s).comp.cell = s.comp.cell ∧ (passageTest s).dose = s.dose ∧ (passageTest s).writer = s.writer
    ∧ (passageTest s).beam = s.beam ∧ (passageTest s).film = s.film ∧ (passageTest s).index.ring = s.index.ring
    ∧ (passageTest s).index.template = s.index.template := by
  simp only [passageTest]
  (repeat' split) <;> simp

@[simp] theorem finishTest_keeps (s : State) :
    (finishTest s).now = s.now ∧ (finishTest s).choices = s.choices ∧ (finishTest s).pending = s.pending
    ∧ (finishTest s).ports = s.ports ∧ (finishTest s).docs = s.docs ∧ (finishTest s).store = s.store
    ∧ (finishTest s).comp.halts = s.comp.halts ∧ (finishTest s).comp.layouts = s.comp.layouts
    ∧ (finishTest s).comp.nextLayout = s.comp.nextLayout ∧ (finishTest s).comp.group = s.comp.group
    ∧ (finishTest s).comp.pauseLimit = s.comp.pauseLimit
    ∧ (finishTest s).comp.completionLimit = s.comp.completionLimit ∧ (finishTest s).comp.ageLimit = s.comp.ageLimit
    ∧ (finishTest s).comp.starveClose = s.comp.starveClose ∧ (finishTest s).comp.nextSerial = s.comp.nextSerial
    ∧ (finishTest s).comp.greatest = s.comp.greatest ∧ (finishTest s).comp.cell = s.comp.cell
    ∧ (finishTest s).dose = s.dose ∧ (finishTest s).writer = s.writer ∧ (finishTest s).beam = s.beam
    ∧ (finishTest s).film.film = s.film.film ∧ (finishTest s).film.count = s.film.count
    ∧ (finishTest s).film.lot = s.film.lot ∧ (finishTest s).film.factor = s.film.factor
    ∧ (finishTest s).film.gateDue = s.film.gateDue ∧ (finishTest s).index = s.index := by
  simp only [finishTest]
  (repeat' split) <;> simp

@[simp] theorem takeSheetOfFilm_keeps (s : State) :
    (takeSheetOfFilm s).now = s.now ∧ (takeSheetOfFilm s).choices = s.choices
    ∧ (takeSheetOfFilm s).pending = s.pending ∧ (takeSheetOfFilm s).docs = s.docs
    ∧ (takeSheetOfFilm s).store = s.store ∧ (takeSheetOfFilm s).comp = s.comp ∧ (takeSheetOfFilm s).dose = s.dose
    ∧ (takeSheetOfFilm s).writer = s.writer ∧ (takeSheetOfFilm s).beam = s.beam
    ∧ (takeSheetOfFilm s).film.film = s.film.film ∧ (takeSheetOfFilm s).film.lot = s.film.lot
    ∧ (takeSheetOfFilm s).film.factor = s.film.factor ∧ (takeSheetOfFilm s).film.gateDue = s.film.gateDue
    ∧ (takeSheetOfFilm s).index = s.index := by
  simp only [takeSheetOfFilm]
  (repeat' split) <;> simp

@[simp] theorem takeSheetOfFilm_ports (s : State) (q : Port) :
    ((takeSheetOfFilm s).ports.get q).cls = (s.ports.get q).cls
    ∧ ((takeSheetOfFilm s).ports.get q).up = (s.ports.get q).up := by
  simp only [takeSheetOfFilm]
  (repeat' split) <;> simp

@[simp] theorem enterOpening_keeps (s : State) :
    (enterOpening s).now = s.now ∧ (enterOpening s).choices = s.choices ∧ (enterOpening s).pending = s.pending
    ∧ (enterOpening s).docs = s.docs ∧ (enterOpening s).store = s.store ∧ (enterOpening s).comp.halts = s.comp.halts
    ∧ (enterOpening s).comp.layouts = s.comp.layouts ∧ (enterOpening s).comp.nextLayout = s.comp.nextLayout
    ∧ (enterOpening s).comp.group = s.comp.group ∧ (enterOpening s).comp.pauseLimit = s.comp.pauseLimit
    ∧ (enterOpening s).comp.completionLimit = s.comp.completionLimit
    ∧ (enterOpening s).comp.ageLimit = s.comp.ageLimit ∧ (enterOpening s).comp.starveClose = s.comp.starveClose
    ∧ (enterOpening s).comp.cell = s.comp.cell ∧ (enterOpening s).dose.gain = s.dose.gain
    ∧ (enterOpening s).dose.dotTime = s.dose.dotTime ∧ (enterOpening s).dose.response = s.dose.response
    ∧ (enterOpening s).dose.frame = s.dose.frame ∧ (enterOpening s).writer = s.writer
    ∧ (enterOpening s).beam = s.beam ∧ (enterOpening s).film.film = s.film.film
    ∧ (enterOpening s).film.lot = s.film.lot ∧ (enterOpening s).film.factor = s.film.factor
    ∧ (enterOpening s).film.gateDue = s.film.gateDue ∧ (enterOpening s).index.ring = s.index.ring
    ∧ (enterOpening s).index.template = s.index.template := by
  simp [enterOpening]

@[simp] theorem enterOpening_ports (s : State) (q : Port) :
    ((enterOpening s).ports.get q).cls = (s.ports.get q).cls
    ∧ ((enterOpening s).ports.get q).up = (s.ports.get q).up := by
  simp [enterOpening]

@[simp] theorem openTest_keeps (s : State) :
    (openTest s).now = s.now ∧ (openTest s).choices = s.choices ∧ (openTest s).pending = s.pending
    ∧ (openTest s).docs = s.docs ∧ (openTest s).store = s.store ∧ (openTest s).comp.layouts = s.comp.layouts
    ∧ (openTest s).comp.nextLayout = s.comp.nextLayout ∧ (openTest s).comp.group = s.comp.group
    ∧ (openTest s).comp.pauseLimit = s.comp.pauseLimit ∧ (openTest s).comp.completionLimit = s.comp.completionLimit
    ∧ (openTest s).comp.ageLimit = s.comp.ageLimit ∧ (openTest s).comp.starveClose = s.comp.starveClose
    ∧ (openTest s).comp.cell = s.comp.cell ∧ (openTest s).dose.gain = s.dose.gain
    ∧ (openTest s).dose.dotTime = s.dose.dotTime ∧ (openTest s).dose.response = s.dose.response
    ∧ (openTest s).dose.frame = s.dose.frame ∧ (openTest s).writer.site = s.writer.site ∧ (openTest s).beam = s.beam
    ∧ (openTest s).film.film = s.film.film ∧ (openTest s).film.lot = s.film.lot
    ∧ (openTest s).film.factor = s.film.factor ∧ (openTest s).film.gateDue = s.film.gateDue
    ∧ (openTest s).index.ring = s.index.ring ∧ (openTest s).index.template = s.index.template := by
  simp only [openTest]
  (repeat' split) <;> simp

@[simp] theorem openTest_ports (s : State) (q : Port) :
    ((openTest s).ports.get q).cls = (s.ports.get q).cls ∧ ((openTest s).ports.get q).up = (s.ports.get q).up := by
  simp only [openTest]
  (repeat' split) <;> simp

@[simp] theorem enterOpen_keeps (s : State) :
    (enterOpen s).now = s.now ∧ (enterOpen s).choices = s.choices ∧ (enterOpen s).pending = s.pending
    ∧ (enterOpen s).docs = s.docs ∧ (enterOpen s).store = s.store ∧ (enterOpen s).comp.halts = s.comp.halts
    ∧ (enterOpen s).comp.layouts = s.comp.layouts ∧ (enterOpen s).comp.nextLayout = s.comp.nextLayout
    ∧ (enterOpen s).comp.group = s.comp.group ∧ (enterOpen s).comp.pauseLimit = s.comp.pauseLimit
    ∧ (enterOpen s).comp.completionLimit = s.comp.completionLimit ∧ (enterOpen s).comp.ageLimit = s.comp.ageLimit
    ∧ (enterOpen s).comp.starveClose = s.comp.starveClose ∧ (enterOpen s).comp.nextSerial = s.comp.nextSerial
    ∧ (enterOpen s).comp.greatest = s.comp.greatest ∧ (enterOpen s).comp.cell = s.comp.cell
    ∧ (enterOpen s).dose = s.dose ∧ (enterOpen s).writer = s.writer ∧ (enterOpen s).beam = s.beam
    ∧ (enterOpen s).film = s.film ∧ (enterOpen s).index = s.index := by
  simp only [enterOpen]
  (repeat' split) <;> simp

@[simp] theorem enterOpen_ports (s : State) (q : Port) :
    ((enterOpen s).ports.get q).cls = (s.ports.get q).cls ∧ ((enterOpen s).ports.get q).up = (s.ports.get q).up := by
  simp only [enterOpen]
  (repeat' split) <;> simp

@[simp] theorem openIfReady_keeps (s : State) :
    (openIfReady s).now = s.now ∧ (openIfReady s).choices = s.choices ∧ (openIfReady s).pending = s.pending
    ∧ (openIfReady s).docs = s.docs ∧ (openIfReady s).store = s.store ∧ (openIfReady s).comp.halts = s.comp.halts
    ∧ (openIfReady s).comp.layouts = s.comp.layouts ∧ (openIfReady s).comp.nextLayout = s.comp.nextLayout
    ∧ (openIfReady s).comp.group = s.comp.group ∧ (openIfReady s).comp.pauseLimit = s.comp.pauseLimit
    ∧ (openIfReady s).comp.completionLimit = s.comp.completionLimit
    ∧ (openIfReady s).comp.ageLimit = s.comp.ageLimit ∧ (openIfReady s).comp.starveClose = s.comp.starveClose
    ∧ (openIfReady s).comp.nextSerial = s.comp.nextSerial ∧ (openIfReady s).comp.greatest = s.comp.greatest
    ∧ (openIfReady s).comp.cell = s.comp.cell ∧ (openIfReady s).dose = s.dose ∧ (openIfReady s).writer = s.writer
    ∧ (openIfReady s).beam = s.beam ∧ (openIfReady s).film = s.film ∧ (openIfReady s).index = s.index := by
  simp only [openIfReady]
  (repeat' split) <;> simp

@[simp] theorem openIfReady_ports (s : State) (q : Port) :
    ((openIfReady s).ports.get q).cls = (s.ports.get q).cls ∧ ((openIfReady s).ports.get q).up = (s.ports.get q).up
    := by
  simp only [openIfReady]
  (repeat' split) <;> simp

@[simp] theorem settle_keeps (s : State) :
    (settle s).now = s.now ∧ (settle s).choices = s.choices ∧ (settle s).pending = s.pending
    ∧ (settle s).docs = s.docs ∧ (settle s).store = s.store ∧ (settle s).comp.layouts = s.comp.layouts
    ∧ (settle s).comp.nextLayout = s.comp.nextLayout ∧ (settle s).comp.group = s.comp.group
    ∧ (settle s).comp.pauseLimit = s.comp.pauseLimit ∧ (settle s).comp.completionLimit = s.comp.completionLimit
    ∧ (settle s).comp.ageLimit = s.comp.ageLimit ∧ (settle s).comp.starveClose = s.comp.starveClose
    ∧ (settle s).comp.cell = s.comp.cell ∧ (settle s).dose.gain = s.dose.gain
    ∧ (settle s).dose.dotTime = s.dose.dotTime ∧ (settle s).dose.response = s.dose.response
    ∧ (settle s).dose.frame = s.dose.frame ∧ (settle s).writer.site = s.writer.site
    ∧ (settle s).beam.state = s.beam.state ∧ (settle s).beam.floorIndex = s.beam.floorIndex
    ∧ (settle s).beam.drift = s.beam.drift ∧ (settle s).film.film = s.film.film ∧ (settle s).film.lot = s.film.lot
    ∧ (settle s).film.factor = s.film.factor ∧ (settle s).index.ring = s.index.ring
    ∧ (settle s).index.template = s.index.template := by
  simp [settle]

@[simp] theorem settle_ports (s : State) (q : Port) :
    ((settle s).ports.get q).cls = (s.ports.get q).cls ∧ ((settle s).ports.get q).up = (s.ports.get q).up := by
  simp [settle]

@[simp] theorem endRun_keeps (s : State) :
    (endRun s).now = s.now ∧ (endRun s).choices = s.choices ∧ (endRun s).pending = s.pending
    ∧ (endRun s).docs = s.docs ∧ (endRun s).store = s.store ∧ (endRun s).comp.layouts = s.comp.layouts
    ∧ (endRun s).comp.nextLayout = s.comp.nextLayout ∧ (endRun s).comp.group = s.comp.group
    ∧ (endRun s).comp.pauseLimit = s.comp.pauseLimit
    ∧ (endRun s).comp.completionLimit = s.comp.completionLimit
    ∧ (endRun s).comp.ageLimit = s.comp.ageLimit ∧ (endRun s).comp.starveClose = s.comp.starveClose
    ∧ (endRun s).comp.cell = s.comp.cell ∧ (endRun s).dose.gain = s.dose.gain
    ∧ (endRun s).dose.dotTime = s.dose.dotTime ∧ (endRun s).dose.response = s.dose.response
    ∧ (endRun s).dose.frame = s.dose.frame ∧ (endRun s).writer.site = s.writer.site
    ∧ (endRun s).beam.state = s.beam.state ∧ (endRun s).beam.floorIndex = s.beam.floorIndex
    ∧ (endRun s).beam.drift = s.beam.drift ∧ (endRun s).film.film = s.film.film
    ∧ (endRun s).film.lot = s.film.lot
    ∧ (endRun s).film.factor = s.film.factor ∧ (endRun s).index.ring = s.index.ring
    ∧ (endRun s).index.template = s.index.template := by
  simp [endRun]

@[simp] theorem endRun_ports (s : State) (q : Port) :
    ((endRun s).ports.get q).cls = (s.ports.get q).cls
    ∧ ((endRun s).ports.get q).up = (s.ports.get q).up := by
  simp [endRun]

@[simp] theorem goOn_keeps (s : State) :
    (goOn s).now = s.now ∧ (goOn s).choices = s.choices ∧ (goOn s).pending = s.pending
    ∧ (goOn s).docs = s.docs ∧ (goOn s).store = s.store ∧ (goOn s).comp.layouts = s.comp.layouts
    ∧ (goOn s).comp.nextLayout = s.comp.nextLayout ∧ (goOn s).comp.group = s.comp.group
    ∧ (goOn s).comp.pauseLimit = s.comp.pauseLimit ∧ (goOn s).comp.completionLimit = s.comp.completionLimit
    ∧ (goOn s).comp.ageLimit = s.comp.ageLimit ∧ (goOn s).comp.starveClose = s.comp.starveClose
    ∧ (goOn s).comp.cell = s.comp.cell ∧ (goOn s).dose.gain = s.dose.gain
    ∧ (goOn s).dose.dotTime = s.dose.dotTime ∧ (goOn s).dose.response = s.dose.response
    ∧ (goOn s).dose.frame = s.dose.frame ∧ (goOn s).writer.site = s.writer.site
    ∧ (goOn s).beam.state = s.beam.state ∧ (goOn s).beam.floorIndex = s.beam.floorIndex
    ∧ (goOn s).beam.drift = s.beam.drift ∧ (goOn s).film.film = s.film.film ∧ (goOn s).film.lot = s.film.lot
    ∧ (goOn s).film.factor = s.film.factor ∧ (goOn s).index.ring = s.index.ring
    ∧ (goOn s).index.template = s.index.template := by
  simp only [goOn, passPort]
  (repeat' split) <;> simp

@[simp] theorem goOn_ports (s : State) (q : Port) :
    ((goOn s).ports.get q).cls = (s.ports.get q).cls ∧ ((goOn s).ports.get q).up = (s.ports.get q).up := by
  simp only [goOn, passPort]
  (repeat' split) <;> simp

@[simp] theorem liftHalt_keeps (c : HaltCause) (s : State) :
    (liftHalt c s).now = s.now ∧ (liftHalt c s).choices = s.choices ∧ (liftHalt c s).pending = s.pending
    ∧ (liftHalt c s).docs = s.docs ∧ (liftHalt c s).store = s.store ∧ (liftHalt c s).comp.layouts = s.comp.layouts
    ∧ (liftHalt c s).comp.nextLayout = s.comp.nextLayout ∧ (liftHalt c s).comp.group = s.comp.group
    ∧ (liftHalt c s).comp.pauseLimit = s.comp.pauseLimit
    ∧ (liftHalt c s).comp.completionLimit = s.comp.completionLimit ∧ (liftHalt c s).comp.ageLimit = s.comp.ageLimit
    ∧ (liftHalt c s).comp.starveClose = s.comp.starveClose ∧ (liftHalt c s).comp.cell = s.comp.cell
    ∧ (liftHalt c s).dose.gain = s.dose.gain ∧ (liftHalt c s).dose.dotTime = s.dose.dotTime
    ∧ (liftHalt c s).dose.response = s.dose.response ∧ (liftHalt c s).dose.frame = s.dose.frame
    ∧ (liftHalt c s).writer.site = s.writer.site ∧ (liftHalt c s).beam.state = s.beam.state
    ∧ (liftHalt c s).beam.floorIndex = s.beam.floorIndex ∧ (liftHalt c s).beam.drift = s.beam.drift
    ∧ (liftHalt c s).film.film = s.film.film ∧ (liftHalt c s).film.lot = s.film.lot
    ∧ (liftHalt c s).film.factor = s.film.factor ∧ (liftHalt c s).index.ring = s.index.ring
    ∧ (liftHalt c s).index.template = s.index.template := by
  simp [liftHalt]

@[simp] theorem liftHalt_ports (c : HaltCause) (s : State) (q : Port) :
    ((liftHalt c s).ports.get q).cls = (s.ports.get q).cls ∧ ((liftHalt c s).ports.get q).up = (s.ports.get q).up :=
    by
  simp [liftHalt]

@[simp] theorem modWriterFrame_keeps (f : FrameRec → FrameRec) (s : State) :
    (modWriterFrame f s).now = s.now ∧ (modWriterFrame f s).choices = s.choices
    ∧ (modWriterFrame f s).pending = s.pending ∧ (modWriterFrame f s).ports = s.ports
    ∧ (modWriterFrame f s).docs = s.docs ∧ (modWriterFrame f s).store = s.store ∧ (modWriterFrame f s).comp = s.comp
    ∧ (modWriterFrame f s).dose = s.dose ∧ (modWriterFrame f s).writer = s.writer
    ∧ (modWriterFrame f s).beam = s.beam ∧ (modWriterFrame f s).film = s.film
    ∧ (modWriterFrame f s).index.ring = s.index.ring ∧ (modWriterFrame f s).index.template = s.index.template := by
  simp only [modWriterFrame]
  (repeat' split) <;> simp

@[simp] theorem startSite_keeps (r : SheetRec) (site : Site) (s : State) :
    (startSite r site s).now = s.now ∧ (startSite r site s).choices = s.choices
    ∧ (startSite r site s).pending = s.pending ∧ (startSite r site s).ports = s.ports
    ∧ (startSite r site s).docs = s.docs ∧ (startSite r site s).store = s.store ∧ (startSite r site s).comp = s.comp
    ∧ (startSite r site s).dose.gain = s.dose.gain ∧ (startSite r site s).dose.dotTime = s.dose.dotTime
    ∧ (startSite r site s).dose.response = s.dose.response ∧ (startSite r site s).beam.state = s.beam.state
    ∧ (startSite r site s).beam.floorIndex = s.beam.floorIndex ∧ (startSite r site s).beam.drift = s.beam.drift
    ∧ (startSite r site s).film.film = s.film.film ∧ (startSite r site s).film.count = s.film.count
    ∧ (startSite r site s).film.lot = s.film.lot ∧ (startSite r site s).film.factor = s.film.factor
    ∧ (startSite r site s).index.ring = s.index.ring ∧ (startSite r site s).index.template = s.index.template := by
  simp [startSite]

@[simp] theorem askResume_keeps (s : State) :
    (askResume s).now = s.now ∧ (askResume s).choices = s.choices ∧ (askResume s).pending = s.pending
    ∧ (askResume s).ports = s.ports ∧ (askResume s).docs = s.docs ∧ (askResume s).store.memory = s.store.memory
    ∧ (askResume s).store.pages = s.store.pages ∧ (askResume s).store.freeList = s.store.freeList
    ∧ (askResume s).store.held = s.store.held ∧ (askResume s).store.quota = s.store.quota
    ∧ (askResume s).comp = s.comp ∧ (askResume s).dose = s.dose ∧ (askResume s).beam.state = s.beam.state
    ∧ (askResume s).beam.floorIndex = s.beam.floorIndex ∧ (askResume s).beam.drift = s.beam.drift
    ∧ (askResume s).film = s.film ∧ (askResume s).index = s.index := by
  simp [askResume]

@[simp] theorem rowsArrived_keeps (page received : Nat) (s : State) :
    (rowsArrived page received s).now = s.now ∧ (rowsArrived page received s).choices = s.choices
    ∧ (rowsArrived page received s).pending = s.pending ∧ (rowsArrived page received s).ports = s.ports
    ∧ (rowsArrived page received s).docs = s.docs ∧ (rowsArrived page received s).store.memory = s.store.memory
    ∧ (rowsArrived page received s).store.pages = s.store.pages
    ∧ (rowsArrived page received s).store.freeList = s.store.freeList
    ∧ (rowsArrived page received s).store.held = s.store.held
    ∧ (rowsArrived page received s).store.quota = s.store.quota ∧ (rowsArrived page received s).comp = s.comp
    ∧ (rowsArrived page received s).dose = s.dose ∧ (rowsArrived page received s).beam.state = s.beam.state
    ∧ (rowsArrived page received s).beam.floorIndex = s.beam.floorIndex
    ∧ (rowsArrived page received s).beam.drift = s.beam.drift ∧ (rowsArrived page received s).film = s.film
    ∧ (rowsArrived page received s).index = s.index := by
  simp only [rowsArrived]
  (repeat' split) <;> simp

@[simp] theorem pauseFrame_keeps (ref : PageRef) (received row : Nat) (s : State) :
    (pauseFrame ref received row s).now = s.now ∧ (pauseFrame ref received row s).choices = s.choices
    ∧ (pauseFrame ref received row s).pending = s.pending ∧ (pauseFrame ref received row s).docs = s.docs
    ∧ (pauseFrame ref received row s).store.memory = s.store.memory
    ∧ (pauseFrame ref received row s).store.pages = s.store.pages
    ∧ (pauseFrame ref received row s).store.freeList = s.store.freeList
    ∧ (pauseFrame ref received row s).store.held = s.store.held
    ∧ (pauseFrame ref received row s).store.quota = s.store.quota ∧ (pauseFrame ref received row s).comp = s.comp
    ∧ (pauseFrame ref received row s).dose = s.dose ∧ (pauseFrame ref received row s).beam.state = s.beam.state
    ∧ (pauseFrame ref received row s).beam.floorIndex = s.beam.floorIndex
    ∧ (pauseFrame ref received row s).beam.drift = s.beam.drift ∧ (pauseFrame ref received row s).film = s.film
    ∧ (pauseFrame ref received row s).index.ring = s.index.ring
    ∧ (pauseFrame ref received row s).index.template = s.index.template := by
  simp [pauseFrame]

@[simp] theorem pauseFrame_ports (ref : PageRef) (received row : Nat) (s : State) (q : Port) :
    ((pauseFrame ref received row s).ports.get q).cls = (s.ports.get q).cls
    ∧ ((pauseFrame ref received row s).ports.get q).up = (s.ports.get q).up := by
  simp [pauseFrame]

@[simp] theorem tryLine_keeps (s : State) :
    (tryLine s).now = s.now ∧ (tryLine s).choices = s.choices ∧ (tryLine s).pending = s.pending
    ∧ (tryLine s).docs = s.docs ∧ (tryLine s).store.memory = s.store.memory
    ∧ (tryLine s).store.pages = s.store.pages ∧ (tryLine s).store.freeList = s.store.freeList
    ∧ (tryLine s).store.held = s.store.held ∧ (tryLine s).store.quota = s.store.quota ∧ (tryLine s).comp = s.comp
    ∧ (tryLine s).dose = s.dose ∧ (tryLine s).beam.state = s.beam.state
    ∧ (tryLine s).beam.floorIndex = s.beam.floorIndex ∧ (tryLine s).beam.drift = s.beam.drift
    ∧ (tryLine s).film = s.film ∧ (tryLine s).index.ring = s.index.ring
    ∧ (tryLine s).index.template = s.index.template := by
  simp only [tryLine]
  (repeat' split) <;> simp

@[simp] theorem tryLine_ports (s : State) (q : Port) :
    ((tryLine s).ports.get q).cls = (s.ports.get q).cls ∧ ((tryLine s).ports.get q).up = (s.ports.get q).up := by
  simp only [tryLine]
  (repeat' split) <;> simp

@[simp] theorem recordOutcome_keeps (site : Site) (spoiled : Bool) (report : Option Report) (s : State) :
    (recordOutcome site spoiled report s).now = s.now ∧ (recordOutcome site spoiled report s).choices = s.choices
    ∧ (recordOutcome site spoiled report s).pending = s.pending
    ∧ (recordOutcome site spoiled report s).ports = s.ports ∧ (recordOutcome site spoiled report s).docs = s.docs
    ∧ (recordOutcome site spoiled report s).store = s.store ∧ (recordOutcome site spoiled report s).comp = s.comp
    ∧ (recordOutcome site spoiled report s).dose = s.dose ∧ (recordOutcome site spoiled report s).writer = s.writer
    ∧ (recordOutcome site spoiled report s).beam = s.beam ∧ (recordOutcome site spoiled report s).film = s.film
    ∧ (recordOutcome site spoiled report s).index.ring = s.index.ring
    ∧ (recordOutcome site spoiled report s).index.template = s.index.template := by
  simp only [recordOutcome]
  (repeat' split) <;> simp

@[simp] theorem endFrame_keeps (s : State) :
    (endFrame s).now = s.now ∧ (endFrame s).choices = s.choices ∧ (endFrame s).pending = s.pending
    ∧ (endFrame s).ports = s.ports ∧ (endFrame s).docs.queues = s.docs.queues
    ∧ (endFrame s).store.memory = s.store.memory ∧ (endFrame s).store.pages = s.store.pages
    ∧ (endFrame s).store.freeList = s.store.freeList ∧ (endFrame s).store.held = s.store.held
    ∧ (endFrame s).store.quota = s.store.quota ∧ (endFrame s).comp = s.comp ∧ (endFrame s).dose = s.dose
    ∧ (endFrame s).beam.state = s.beam.state ∧ (endFrame s).beam.floorIndex = s.beam.floorIndex
    ∧ (endFrame s).beam.drift = s.beam.drift ∧ (endFrame s).film.film = s.film.film
    ∧ (endFrame s).film.count = s.film.count ∧ (endFrame s).film.lot = s.film.lot
    ∧ (endFrame s).film.factor = s.film.factor ∧ (endFrame s).film.gateDue = s.film.gateDue
    ∧ (endFrame s).index.ring = s.index.ring ∧ (endFrame s).index.template = s.index.template := by
  simp only [endFrame]
  (repeat' split) <;> simp

@[simp] theorem accountSpoil_keeps (ref : PageRef) (serial n : Nat) (cause : SpoilCause) (s : State) :
    (accountSpoil ref serial n cause s).now = s.now ∧ (accountSpoil ref serial n cause s).choices = s.choices
    ∧ (accountSpoil ref serial n cause s).pending = s.pending
    ∧ (accountSpoil ref serial n cause s).docs.queues = s.docs.queues
    ∧ (accountSpoil ref serial n cause s).store = s.store
    ∧ (accountSpoil ref serial n cause s).comp.sheet = s.comp.sheet
    ∧ (accountSpoil ref serial n cause s).comp.halts = s.comp.halts
    ∧ (accountSpoil ref serial n cause s).comp.layouts = s.comp.layouts
    ∧ (accountSpoil ref serial n cause s).comp.nextLayout = s.comp.nextLayout
    ∧ (accountSpoil ref serial n cause s).comp.group = s.comp.group
    ∧ (accountSpoil ref serial n cause s).comp.pauseLimit = s.comp.pauseLimit
    ∧ (accountSpoil ref serial n cause s).comp.completionLimit = s.comp.completionLimit
    ∧ (accountSpoil ref serial n cause s).comp.ageLimit = s.comp.ageLimit
    ∧ (accountSpoil ref serial n cause s).comp.starveClose = s.comp.starveClose
    ∧ (accountSpoil ref serial n cause s).comp.nextSerial = s.comp.nextSerial
    ∧ (accountSpoil ref serial n cause s).comp.greatest = s.comp.greatest
    ∧ (accountSpoil ref serial n cause s).comp.cell = s.comp.cell
    ∧ (accountSpoil ref serial n cause s).dose = s.dose ∧ (accountSpoil ref serial n cause s).writer = s.writer
    ∧ (accountSpoil ref serial n cause s).beam = s.beam ∧ (accountSpoil ref serial n cause s).film = s.film
    ∧ (accountSpoil ref serial n cause s).index = s.index := by
  simp only [accountSpoil]
  (repeat' split) <;> simp

@[simp] theorem accountSpoil_ports (ref : PageRef) (serial n : Nat) (cause : SpoilCause) (s : State) (q : Port) :
    ((accountSpoil ref serial n cause s).ports.get q).cls = (s.ports.get q).cls
    ∧ ((accountSpoil ref serial n cause s).ports.get q).up = (s.ports.get q).up := by
  simp only [accountSpoil]
  (repeat' split) <;> simp

@[simp] theorem accountSite_keeps (site : Site) (ref : Option PageRef) (serial : Nat) (cause : SpoilCause) (s :
    State) :
    (accountSite site ref serial cause s).now = s.now ∧ (accountSite site ref serial cause s).choices = s.choices
    ∧ (accountSite site ref serial cause s).pending = s.pending
    ∧ (accountSite site ref serial cause s).docs.queues = s.docs.queues
    ∧ (accountSite site ref serial cause s).store = s.store
    ∧ (accountSite site ref serial cause s).comp.sheet = s.comp.sheet
    ∧ (accountSite site ref serial cause s).comp.halts = s.comp.halts
    ∧ (accountSite site ref serial cause s).comp.layouts = s.comp.layouts
    ∧ (accountSite site ref serial cause s).comp.nextLayout = s.comp.nextLayout
    ∧ (accountSite site ref serial cause s).comp.group = s.comp.group
    ∧ (accountSite site ref serial cause s).comp.pauseLimit = s.comp.pauseLimit
    ∧ (accountSite site ref serial cause s).comp.completionLimit = s.comp.completionLimit
    ∧ (accountSite site ref serial cause s).comp.ageLimit = s.comp.ageLimit
    ∧ (accountSite site ref serial cause s).comp.starveClose = s.comp.starveClose
    ∧ (accountSite site ref serial cause s).comp.nextSerial = s.comp.nextSerial
    ∧ (accountSite site ref serial cause s).comp.greatest = s.comp.greatest
    ∧ (accountSite site ref serial cause s).comp.cell = s.comp.cell
    ∧ (accountSite site ref serial cause s).dose = s.dose ∧ (accountSite site ref serial cause s).writer = s.writer
    ∧ (accountSite site ref serial cause s).beam = s.beam ∧ (accountSite site ref serial cause s).film = s.film
    ∧ (accountSite site ref serial cause s).index = s.index := by
  simp only [accountSite]
  (repeat' split) <;> simp

@[simp] theorem accountSite_ports (site : Site) (ref : Option PageRef) (serial : Nat) (cause : SpoilCause) (s :
    State) (q : Port) :
    ((accountSite site ref serial cause s).ports.get q).cls = (s.ports.get q).cls
    ∧ ((accountSite site ref serial cause s).ports.get q).up = (s.ports.get q).up := by
  simp only [accountSite]
  (repeat' split) <;> simp

@[simp] theorem spoilFrame_keeps (cause : SpoilCause) (s : State) :
    (spoilFrame cause s).now = s.now ∧ (spoilFrame cause s).choices = s.choices
    ∧ (spoilFrame cause s).pending = s.pending ∧ (spoilFrame cause s).docs.queues = s.docs.queues
    ∧ (spoilFrame cause s).store.memory = s.store.memory ∧ (spoilFrame cause s).store.pages = s.store.pages
    ∧ (spoilFrame cause s).store.freeList = s.store.freeList ∧ (spoilFrame cause s).store.held = s.store.held
    ∧ (spoilFrame cause s).store.quota = s.store.quota ∧ (spoilFrame cause s).comp.sheet = s.comp.sheet
    ∧ (spoilFrame cause s).comp.halts = s.comp.halts ∧ (spoilFrame cause s).comp.layouts = s.comp.layouts
    ∧ (spoilFrame cause s).comp.nextLayout = s.comp.nextLayout ∧ (spoilFrame cause s).comp.group = s.comp.group
    ∧ (spoilFrame cause s).comp.pauseLimit = s.comp.pauseLimit
    ∧ (spoilFrame cause s).comp.completionLimit = s.comp.completionLimit
    ∧ (spoilFrame cause s).comp.ageLimit = s.comp.ageLimit
    ∧ (spoilFrame cause s).comp.starveClose = s.comp.starveClose
    ∧ (spoilFrame cause s).comp.nextSerial = s.comp.nextSerial
    ∧ (spoilFrame cause s).comp.greatest = s.comp.greatest ∧ (spoilFrame cause s).comp.cell = s.comp.cell
    ∧ (spoilFrame cause s).dose = s.dose ∧ (spoilFrame cause s).beam.state = s.beam.state
    ∧ (spoilFrame cause s).beam.floorIndex = s.beam.floorIndex ∧ (spoilFrame cause s).beam.drift = s.beam.drift
    ∧ (spoilFrame cause s).film.film = s.film.film ∧ (spoilFrame cause s).film.count = s.film.count
    ∧ (spoilFrame cause s).film.lot = s.film.lot ∧ (spoilFrame cause s).film.factor = s.film.factor
    ∧ (spoilFrame cause s).film.gateDue = s.film.gateDue ∧ (spoilFrame cause s).index.ring = s.index.ring
    ∧ (spoilFrame cause s).index.template = s.index.template := by
  simp only [spoilFrame]
  (repeat' split) <;> simp

@[simp] theorem spoilFrame_ports (cause : SpoilCause) (s : State) (q : Port) :
    ((spoilFrame cause s).ports.get q).cls = (s.ports.get q).cls
    ∧ ((spoilFrame cause s).ports.get q).up = (s.ports.get q).up := by
  simp only [spoilFrame]
  (repeat' split) <;> simp

@[simp] theorem faultFrame_keeps (cause : SpoilCause) (s : State) :
    (faultFrame cause s).now = s.now ∧ (faultFrame cause s).choices = s.choices
    ∧ (faultFrame cause s).pending = s.pending ∧ (faultFrame cause s).docs.queues = s.docs.queues
    ∧ (faultFrame cause s).store.memory = s.store.memory ∧ (faultFrame cause s).store.pages = s.store.pages
    ∧ (faultFrame cause s).store.freeList = s.store.freeList ∧ (faultFrame cause s).store.held = s.store.held
    ∧ (faultFrame cause s).store.quota = s.store.quota ∧ (faultFrame cause s).comp.sheet = s.comp.sheet
    ∧ (faultFrame cause s).comp.halts = s.comp.halts ∧ (faultFrame cause s).comp.layouts = s.comp.layouts
    ∧ (faultFrame cause s).comp.nextLayout = s.comp.nextLayout ∧ (faultFrame cause s).comp.group = s.comp.group
    ∧ (faultFrame cause s).comp.pauseLimit = s.comp.pauseLimit
    ∧ (faultFrame cause s).comp.completionLimit = s.comp.completionLimit
    ∧ (faultFrame cause s).comp.ageLimit = s.comp.ageLimit
    ∧ (faultFrame cause s).comp.starveClose = s.comp.starveClose
    ∧ (faultFrame cause s).comp.nextSerial = s.comp.nextSerial
    ∧ (faultFrame cause s).comp.greatest = s.comp.greatest ∧ (faultFrame cause s).comp.cell = s.comp.cell
    ∧ (faultFrame cause s).dose = s.dose ∧ (faultFrame cause s).beam.state = s.beam.state
    ∧ (faultFrame cause s).beam.floorIndex = s.beam.floorIndex ∧ (faultFrame cause s).beam.drift = s.beam.drift
    ∧ (faultFrame cause s).film.film = s.film.film ∧ (faultFrame cause s).film.count = s.film.count
    ∧ (faultFrame cause s).film.lot = s.film.lot ∧ (faultFrame cause s).film.factor = s.film.factor
    ∧ (faultFrame cause s).film.gateDue = s.film.gateDue ∧ (faultFrame cause s).index.ring = s.index.ring
    ∧ (faultFrame cause s).index.template = s.index.template := by
  simp only [faultFrame]
  (repeat' split) <;> simp

@[simp] theorem faultFrame_ports (cause : SpoilCause) (s : State) (q : Port) :
    ((faultFrame cause s).ports.get q).cls = (s.ports.get q).cls
    ∧ ((faultFrame cause s).ports.get q).up = (s.ports.get q).up := by
  simp only [faultFrame]
  (repeat' split) <;> simp

@[simp] theorem undoStart_keeps (s : State) :
    (undoStart s).now = s.now ∧ (undoStart s).choices = s.choices ∧ (undoStart s).pending = s.pending
    ∧ (undoStart s).docs = s.docs ∧ (undoStart s).store.memory = s.store.memory
    ∧ (undoStart s).store.pages = s.store.pages ∧ (undoStart s).store.freeList = s.store.freeList
    ∧ (undoStart s).store.held = s.store.held ∧ (undoStart s).store.quota = s.store.quota
    ∧ (undoStart s).comp.sheet = s.comp.sheet ∧ (undoStart s).comp.layouts = s.comp.layouts
    ∧ (undoStart s).comp.nextLayout = s.comp.nextLayout ∧ (undoStart s).comp.group = s.comp.group
    ∧ (undoStart s).comp.pauseLimit = s.comp.pauseLimit
    ∧ (undoStart s).comp.completionLimit = s.comp.completionLimit ∧ (undoStart s).comp.ageLimit = s.comp.ageLimit
    ∧ (undoStart s).comp.starveClose = s.comp.starveClose ∧ (undoStart s).comp.nextSerial = s.comp.nextSerial
    ∧ (undoStart s).comp.greatest = s.comp.greatest ∧ (undoStart s).comp.cell = s.comp.cell
    ∧ (undoStart s).dose = s.dose ∧ (undoStart s).beam.state = s.beam.state
    ∧ (undoStart s).beam.floorIndex = s.beam.floorIndex ∧ (undoStart s).beam.drift = s.beam.drift
    ∧ (undoStart s).film.film = s.film.film ∧ (undoStart s).film.count = s.film.count
    ∧ (undoStart s).film.lot = s.film.lot ∧ (undoStart s).film.factor = s.film.factor
    ∧ (undoStart s).film.gateDue = s.film.gateDue ∧ (undoStart s).index.ring = s.index.ring
    ∧ (undoStart s).index.template = s.index.template := by
  simp [undoStart]

@[simp] theorem undoStart_ports (s : State) (q : Port) :
    ((undoStart s).ports.get q).cls = (s.ports.get q).cls ∧ ((undoStart s).ports.get q).up = (s.ports.get q).up := by
  simp [undoStart]

end Sys2Proof.Machine
end

