-- ==== Sys2Proof/Laws/Commands.lean ====
section
/-! SUPPORT. Frames: what the operations behind the commands leave as it was. `x_keeps` names
every field that the operation x keeps in every state, `x_ports` that the class and the link state of every port are
kept. A field that is not named may change. -/

namespace Sys2Proof.Machine

@[simp] theorem resumeMotion_keeps (c : HaltCause) (s : State) :
    (resumeMotion c s).now = s.now ∧ (resumeMotion c s).choices = s.choices ∧ (resumeMotion c s).pending = s.pending
    ∧ (resumeMotion c s).docs = s.docs ∧ (resumeMotion c s).store = s.store
    ∧ (resumeMotion c s).comp.layouts = s.comp.layouts ∧ (resumeMotion c s).comp.nextLayout = s.comp.nextLayout
    ∧ (resumeMotion c s).comp.group = s.comp.group ∧ (resumeMotion c s).comp.pauseLimit = s.comp.pauseLimit
    ∧ (resumeMotion c s).comp.completionLimit = s.comp.completionLimit
    ∧ (resumeMotion c s).comp.ageLimit = s.comp.ageLimit ∧ (resumeMotion c s).comp.starveClose = s.comp.starveClose
    ∧ (resumeMotion c s).comp.cell = s.comp.cell ∧ (resumeMotion c s).dose.gain = s.dose.gain
    ∧ (resumeMotion c s).dose.dotTime = s.dose.dotTime ∧ (resumeMotion c s).dose.response = s.dose.response
    ∧ (resumeMotion c s).dose.frame = s.dose.frame ∧ (resumeMotion c s).writer.site = s.writer.site
    ∧ (resumeMotion c s).beam.state = s.beam.state ∧ (resumeMotion c s).beam.floorIndex = s.beam.floorIndex
    ∧ (resumeMotion c s).beam.drift = s.beam.drift ∧ (resumeMotion c s).film.film = s.film.film
    ∧ (resumeMotion c s).film.lot = s.film.lot ∧ (resumeMotion c s).film.factor = s.film.factor
    ∧ (resumeMotion c s).index.ring = s.index.ring ∧ (resumeMotion c s).index.template = s.index.template := by
  simp [resumeMotion]

@[simp] theorem resumeMotion_ports (c : HaltCause) (s : State) (q : Port) :
    ((resumeMotion c s).ports.get q).cls = (s.ports.get q).cls
    ∧ ((resumeMotion c s).ports.get q).up = (s.ports.get q).up := by
  simp [resumeMotion]

@[simp] theorem resumeHead_keeps (p : Port) (tag : Nat) (s : State) :
    (resumeHead p tag s).now = s.now ∧ (resumeHead p tag s).choices = s.choices
    ∧ (resumeHead p tag s).pending = s.pending ∧ (resumeHead p tag s).docs = s.docs
    ∧ (resumeHead p tag s).store = s.store ∧ (resumeHead p tag s).comp.layouts = s.comp.layouts
    ∧ (resumeHead p tag s).comp.nextLayout = s.comp.nextLayout ∧ (resumeHead p tag s).comp.group = s.comp.group
    ∧ (resumeHead p tag s).comp.pauseLimit = s.comp.pauseLimit
    ∧ (resumeHead p tag s).comp.completionLimit = s.comp.completionLimit
    ∧ (resumeHead p tag s).comp.ageLimit = s.comp.ageLimit
    ∧ (resumeHead p tag s).comp.starveClose = s.comp.starveClose ∧ (resumeHead p tag s).comp.cell = s.comp.cell
    ∧ (resumeHead p tag s).dose.gain = s.dose.gain ∧ (resumeHead p tag s).dose.dotTime = s.dose.dotTime
    ∧ (resumeHead p tag s).dose.response = s.dose.response ∧ (resumeHead p tag s).dose.frame = s.dose.frame
    ∧ (resumeHead p tag s).writer.site = s.writer.site ∧ (resumeHead p tag s).beam.state = s.beam.state
    ∧ (resumeHead p tag s).beam.floorIndex = s.beam.floorIndex ∧ (resumeHead p tag s).beam.drift = s.beam.drift
    ∧ (resumeHead p tag s).film.film = s.film.film ∧ (resumeHead p tag s).film.lot = s.film.lot
    ∧ (resumeHead p tag s).film.factor = s.film.factor ∧ (resumeHead p tag s).index.ring = s.index.ring
    ∧ (resumeHead p tag s).index.template = s.index.template := by
  simp only [resumeHead]
  (repeat' split) <;> simp

@[simp] theorem resumeHead_ports (p : Port) (tag : Nat) (s : State) (q : Port) :
    ((resumeHead p tag s).ports.get q).cls = (s.ports.get q).cls
    ∧ ((resumeHead p tag s).ports.get q).up = (s.ports.get q).up := by
  simp only [resumeHead]
  (repeat' split) <;> simp

@[simp] theorem undoMark_keeps (s : State) (a : FrameRec) :
    (undoMark s a).now = s.now
    ∧ (undoMark s a).choices = s.choices
    ∧ (undoMark s a).pending = s.pending
    ∧ (undoMark s a).ports = s.ports
    ∧ (undoMark s a).docs.queues = s.docs.queues
    ∧ (undoMark s a).store = s.store
    ∧ (undoMark s a).comp = s.comp
    ∧ (undoMark s a).dose = s.dose
    ∧ (undoMark s a).writer = s.writer
    ∧ (undoMark s a).beam = s.beam
    ∧ (undoMark s a).film = s.film
    ∧ (undoMark s a).index = s.index := by
  simp only [undoMark]
  (repeat' split) <;> simp

@[simp] theorem undoMarks_keeps (l : List FrameRec) (s : State) :
    (l.foldl undoMark s).now = s.now
    ∧ (l.foldl undoMark s).choices = s.choices
    ∧ (l.foldl undoMark s).pending = s.pending
    ∧ (l.foldl undoMark s).ports = s.ports
    ∧ (l.foldl undoMark s).docs.queues = s.docs.queues
    ∧ (l.foldl undoMark s).store = s.store
    ∧ (l.foldl undoMark s).comp = s.comp
    ∧ (l.foldl undoMark s).dose = s.dose
    ∧ (l.foldl undoMark s).writer = s.writer
    ∧ (l.foldl undoMark s).beam = s.beam
    ∧ (l.foldl undoMark s).film = s.film
    ∧ (l.foldl undoMark s).index = s.index := by
  induction l generalizing s with
  | nil => simp
  | cons a l ih => simp [ih]

@[simp] theorem undoOutcomes_keeps (frames : List FrameRec) (s : State) :
    (undoOutcomes frames s).now = s.now ∧ (undoOutcomes frames s).choices = s.choices
    ∧ (undoOutcomes frames s).pending = s.pending ∧ (undoOutcomes frames s).ports = s.ports
    ∧ (undoOutcomes frames s).docs.queues = s.docs.queues ∧ (undoOutcomes frames s).store = s.store
    ∧ (undoOutcomes frames s).comp = s.comp ∧ (undoOutcomes frames s).dose = s.dose
    ∧ (undoOutcomes frames s).writer = s.writer ∧ (undoOutcomes frames s).beam = s.beam
    ∧ (undoOutcomes frames s).film = s.film ∧ (undoOutcomes frames s).index = s.index :=
  undoMarks_keeps _ s

@[simp] theorem unplaceDocs_keeps (l : List Entry) (s : State) :
    (l.foldl (fun s e => modDoc e.doc (Doc.unplace e.pageCount) s) s).now = s.now
    ∧ (l.foldl (fun s e => modDoc e.doc (Doc.unplace e.pageCount) s) s).choices = s.choices
    ∧ (l.foldl (fun s e => modDoc e.doc (Doc.unplace e.pageCount) s) s).pending = s.pending
    ∧ (l.foldl (fun s e => modDoc e.doc (Doc.unplace e.pageCount) s) s).ports = s.ports
    ∧ (l.foldl (fun s e => modDoc e.doc (Doc.unplace e.pageCount) s) s).docs.queues = s.docs.queues
    ∧ (l.foldl (fun s e => modDoc e.doc (Doc.unplace e.pageCount) s) s).store = s.store
    ∧ (l.foldl (fun s e => modDoc e.doc (Doc.unplace e.pageCount) s) s).comp = s.comp
    ∧ (l.foldl (fun s e => modDoc e.doc (Doc.unplace e.pageCount) s) s).dose = s.dose
    ∧ (l.foldl (fun s e => modDoc e.doc (Doc.unplace e.pageCount) s) s).writer = s.writer
    ∧ (l.foldl (fun s e => modDoc e.doc (Doc.unplace e.pageCount) s) s).beam = s.beam
    ∧ (l.foldl (fun s e => modDoc e.doc (Doc.unplace e.pageCount) s) s).film = s.film
    ∧ (l.foldl (fun s e => modDoc e.doc (Doc.unplace e.pageCount) s) s).index = s.index := by
  induction l generalizing s with
  | nil => simp
  | cons a l ih =>
    simp only [List.foldl_cons, ih]
    simp

@[simp] theorem undoDocs_keeps (r : SheetRec) (s : State) :
    (undoDocs r s).now = s.now ∧ (undoDocs r s).choices = s.choices ∧ (undoDocs r s).pending = s.pending
    ∧ (undoDocs r s).ports = s.ports ∧ (undoDocs r s).docs.queues = s.docs.queues ∧ (undoDocs r s).store = s.store
    ∧ (undoDocs r s).comp = s.comp ∧ (undoDocs r s).dose = s.dose ∧ (undoDocs r s).writer = s.writer
    ∧ (undoDocs r s).beam = s.beam ∧ (undoDocs r s).film = s.film ∧ (undoDocs r s).index = s.index := by
  simp [undoDocs]

@[simp] theorem undoPort_keeps (docs : List Nat) (marks : PerPort Bool) (p : Port) (s : State) :
    (undoPort docs marks p s).now = s.now ∧ (undoPort docs marks p s).choices = s.choices
    ∧ (undoPort docs marks p s).pending = s.pending ∧ (undoPort docs marks p s).ports = s.ports
    ∧ (undoPort docs marks p s).docs.table = s.docs.table ∧ (undoPort docs marks p s).store = s.store
    ∧ (undoPort docs marks p s).comp.sheet = s.comp.sheet ∧ (undoPort docs marks p s).comp.halts = s.comp.halts
    ∧ (undoPort docs marks p s).comp.layouts = s.comp.layouts
    ∧ (undoPort docs marks p s).comp.nextLayout = s.comp.nextLayout
    ∧ (undoPort docs marks p s).comp.group = s.comp.group
    ∧ (undoPort docs marks p s).comp.pauseLimit = s.comp.pauseLimit
    ∧ (undoPort docs marks p s).comp.completionLimit = s.comp.completionLimit
    ∧ (undoPort docs marks p s).comp.ageLimit = s.comp.ageLimit
    ∧ (undoPort docs marks p s).comp.starveClose = s.comp.starveClose
    ∧ (undoPort docs marks p s).comp.nextSerial = s.comp.nextSerial
    ∧ (undoPort docs marks p s).comp.greatest = s.comp.greatest ∧ (undoPort docs marks p s).comp.cell = s.comp.cell
    ∧ (undoPort docs marks p s).dose = s.dose ∧ (undoPort docs marks p s).writer = s.writer
    ∧ (undoPort docs marks p s).beam = s.beam ∧ (undoPort docs marks p s).film = s.film
    ∧ (undoPort docs marks p s).index = s.index := by
  simp only [undoPort]
  (repeat' split) <;> simp

@[simp] theorem undoPorts_keeps (docs : List Nat) (marks : PerPort Bool) (l : List Port) (s : State) :
    (l.foldl (fun s p => undoPort docs marks p s) s).now = s.now
    ∧ (l.foldl (fun s p => undoPort docs marks p s) s).choices = s.choices
    ∧ (l.foldl (fun s p => undoPort docs marks p s) s).pending = s.pending
    ∧ (l.foldl (fun s p => undoPort docs marks p s) s).ports = s.ports
    ∧ (l.foldl (fun s p => undoPort docs marks p s) s).docs.table = s.docs.table
    ∧ (l.foldl (fun s p => undoPort docs marks p s) s).store = s.store
    ∧ (l.foldl (fun s p => undoPort docs marks p s) s).comp.sheet = s.comp.sheet
    ∧ (l.foldl (fun s p => undoPort docs marks p s) s).comp.halts = s.comp.halts
    ∧ (l.foldl (fun s p => undoPort docs marks p s) s).comp.layouts = s.comp.layouts
    ∧ (l.foldl (fun s p => undoPort docs marks p s) s).comp.nextLayout = s.comp.nextLayout
    ∧ (l.foldl (fun s p => undoPort docs marks p s) s).comp.group = s.comp.group
    ∧ (l.foldl (fun s p => undoPort docs marks p s) s).comp.pauseLimit = s.comp.pauseLimit
    ∧ (l.foldl (fun s p => undoPort docs marks p s) s).comp.completionLimit = s.comp.completionLimit
    ∧ (l.foldl (fun s p => undoPort docs marks p s) s).comp.ageLimit = s.comp.ageLimit
    ∧ (l.foldl (fun s p => undoPort docs marks p s) s).comp.starveClose = s.comp.starveClose
    ∧ (l.foldl (fun s p => undoPort docs marks p s) s).comp.nextSerial = s.comp.nextSerial
    ∧ (l.foldl (fun s p => undoPort docs marks p s) s).comp.greatest = s.comp.greatest
    ∧ (l.foldl (fun s p => undoPort docs marks p s) s).comp.cell = s.comp.cell
    ∧ (l.foldl (fun s p => undoPort docs marks p s) s).dose = s.dose
    ∧ (l.foldl (fun s p => undoPort docs marks p s) s).writer = s.writer
    ∧ (l.foldl (fun s p => undoPort docs marks p s) s).beam = s.beam
    ∧ (l.foldl (fun s p => undoPort docs marks p s) s).film = s.film
    ∧ (l.foldl (fun s p => undoPort docs marks p s) s).index = s.index := by
  induction l generalizing s with
  | nil => simp
  | cons a l ih =>
    simp only [List.foldl_cons, ih]
    simp

@[simp] theorem undoSheet_keeps (r : SheetRec) (s : State) :
    (undoSheet r s).now = s.now ∧ (undoSheet r s).choices = s.choices ∧ (undoSheet r s).pending = s.pending
    ∧ (undoSheet r s).ports = s.ports ∧ (undoSheet r s).store = s.store ∧ (undoSheet r s).comp.sheet = s.comp.sheet
    ∧ (undoSheet r s).comp.halts = s.comp.halts ∧ (undoSheet r s).comp.layouts = s.comp.layouts
    ∧ (undoSheet r s).comp.nextLayout = s.comp.nextLayout ∧ (undoSheet r s).comp.group = s.comp.group
    ∧ (undoSheet r s).comp.pauseLimit = s.comp.pauseLimit
    ∧ (undoSheet r s).comp.completionLimit = s.comp.completionLimit
    ∧ (undoSheet r s).comp.ageLimit = s.comp.ageLimit ∧ (undoSheet r s).comp.starveClose = s.comp.starveClose
    ∧ (undoSheet r s).comp.nextSerial = s.comp.nextSerial ∧ (undoSheet r s).comp.greatest = s.comp.greatest
    ∧ (undoSheet r s).comp.cell = s.comp.cell ∧ (undoSheet r s).dose = s.dose ∧ (undoSheet r s).writer = s.writer
    ∧ (undoSheet r s).beam = s.beam ∧ (undoSheet r s).film = s.film ∧ (undoSheet r s).index = s.index := by
  simp [undoSheet]

@[simp] theorem abortPlaced_keeps (s : State) :
    (abortPlaced s).now = s.now ∧ (abortPlaced s).choices = s.choices ∧ (abortPlaced s).pending = s.pending
    ∧ (abortPlaced s).store.memory = s.store.memory ∧ (abortPlaced s).store.pages = s.store.pages
    ∧ (abortPlaced s).store.freeList = s.store.freeList ∧ (abortPlaced s).store.held = s.store.held
    ∧ (abortPlaced s).store.quota = s.store.quota ∧ (abortPlaced s).comp.halts = s.comp.halts
    ∧ (abortPlaced s).comp.layouts = s.comp.layouts ∧ (abortPlaced s).comp.nextLayout = s.comp.nextLayout
    ∧ (abortPlaced s).comp.group = s.comp.group ∧ (abortPlaced s).comp.pauseLimit = s.comp.pauseLimit
    ∧ (abortPlaced s).comp.completionLimit = s.comp.completionLimit
    ∧ (abortPlaced s).comp.ageLimit = s.comp.ageLimit ∧ (abortPlaced s).comp.starveClose = s.comp.starveClose
    ∧ (abortPlaced s).comp.nextSerial = s.comp.nextSerial ∧ (abortPlaced s).comp.greatest = s.comp.greatest
    ∧ (abortPlaced s).comp.cell = s.comp.cell ∧ (abortPlaced s).dose = s.dose
    ∧ (abortPlaced s).beam.state = s.beam.state ∧ (abortPlaced s).beam.floorIndex = s.beam.floorIndex
    ∧ (abortPlaced s).beam.drift = s.beam.drift ∧ (abortPlaced s).film.film = s.film.film
    ∧ (abortPlaced s).film.count = s.film.count ∧ (abortPlaced s).film.lot = s.film.lot
    ∧ (abortPlaced s).film.factor = s.film.factor ∧ (abortPlaced s).index.ring = s.index.ring
    ∧ (abortPlaced s).index.template = s.index.template := by
  simp only [abortPlaced]
  (repeat' split) <;> simp

@[simp] theorem abortPlaced_ports (s : State) (q : Port) :
    ((abortPlaced s).ports.get q).cls = (s.ports.get q).cls ∧ ((abortPlaced s).ports.get q).up = (s.ports.get q).up
    := by
  simp only [abortPlaced]
  (repeat' split) <;> simp

@[simp] theorem abortOpening_keeps (s : State) :
    (abortOpening s).now = s.now ∧ (abortOpening s).choices = s.choices ∧ (abortOpening s).pending = s.pending
    ∧ (abortOpening s).ports = s.ports ∧ (abortOpening s).docs = s.docs ∧ (abortOpening s).store = s.store
    ∧ (abortOpening s).comp.halts = s.comp.halts ∧ (abortOpening s).comp.layouts = s.comp.layouts
    ∧ (abortOpening s).comp.nextLayout = s.comp.nextLayout ∧ (abortOpening s).comp.group = s.comp.group
    ∧ (abortOpening s).comp.pauseLimit = s.comp.pauseLimit
    ∧ (abortOpening s).comp.completionLimit = s.comp.completionLimit
    ∧ (abortOpening s).comp.ageLimit = s.comp.ageLimit ∧ (abortOpening s).comp.starveClose = s.comp.starveClose
    ∧ (abortOpening s).comp.nextSerial = s.comp.nextSerial ∧ (abortOpening s).comp.greatest = s.comp.greatest
    ∧ (abortOpening s).comp.cell = s.comp.cell ∧ (abortOpening s).dose = s.dose
    ∧ (abortOpening s).writer.mode = s.writer.mode ∧ (abortOpening s).writer.site = s.writer.site
    ∧ (abortOpening s).beam.state = s.beam.state ∧ (abortOpening s).beam.floorIndex = s.beam.floorIndex
    ∧ (abortOpening s).beam.drift = s.beam.drift ∧ (abortOpening s).film.film = s.film.film
    ∧ (abortOpening s).film.count = s.film.count ∧ (abortOpening s).film.lot = s.film.lot
    ∧ (abortOpening s).film.factor = s.film.factor ∧ (abortOpening s).index.ring = s.index.ring
    ∧ (abortOpening s).index.template = s.index.template := by
  simp only [abortOpening]
  (repeat' split) <;> simp

@[simp] theorem applyAge_keeps (s : State) :
    (applyAge s).now = s.now ∧ (applyAge s).choices = s.choices ∧ (applyAge s).pending = s.pending
    ∧ (applyAge s).ports = s.ports ∧ (applyAge s).docs = s.docs ∧ (applyAge s).store = s.store
    ∧ (applyAge s).comp.halts = s.comp.halts ∧ (applyAge s).comp.layouts = s.comp.layouts
    ∧ (applyAge s).comp.nextLayout = s.comp.nextLayout ∧ (applyAge s).comp.group = s.comp.group
    ∧ (applyAge s).comp.pauseLimit = s.comp.pauseLimit ∧ (applyAge s).comp.completionLimit = s.comp.completionLimit
    ∧ (applyAge s).comp.ageLimit = s.comp.ageLimit ∧ (applyAge s).comp.starveClose = s.comp.starveClose
    ∧ (applyAge s).comp.nextSerial = s.comp.nextSerial ∧ (applyAge s).comp.greatest = s.comp.greatest
    ∧ (applyAge s).comp.cell = s.comp.cell ∧ (applyAge s).dose = s.dose ∧ (applyAge s).writer = s.writer
    ∧ (applyAge s).beam = s.beam ∧ (applyAge s).film = s.film ∧ (applyAge s).index.ring = s.index.ring
    ∧ (applyAge s).index.template = s.index.template := by
  simp only [applyAge]
  (repeat' split) <;> simp

@[simp] theorem expireDoc_keeps (h : Nat) (s : State) :
    (expireDoc h s).now = s.now ∧ (expireDoc h s).pending = s.pending ∧ (expireDoc h s).store.quota = s.store.quota
    ∧ (expireDoc h s).comp.sheet = s.comp.sheet ∧ (expireDoc h s).comp.halts = s.comp.halts
    ∧ (expireDoc h s).comp.layouts = s.comp.layouts ∧ (expireDoc h s).comp.nextLayout = s.comp.nextLayout
    ∧ (expireDoc h s).comp.group = s.comp.group ∧ (expireDoc h s).comp.pauseLimit = s.comp.pauseLimit
    ∧ (expireDoc h s).comp.completionLimit = s.comp.completionLimit
    ∧ (expireDoc h s).comp.ageLimit = s.comp.ageLimit ∧ (expireDoc h s).comp.starveClose = s.comp.starveClose
    ∧ (expireDoc h s).comp.nextSerial = s.comp.nextSerial ∧ (expireDoc h s).comp.greatest = s.comp.greatest
    ∧ (expireDoc h s).comp.cell = s.comp.cell ∧ (expireDoc h s).dose = s.dose ∧ (expireDoc h s).writer = s.writer
    ∧ (expireDoc h s).beam = s.beam ∧ (expireDoc h s).film = s.film ∧ (expireDoc h s).index.ring = s.index.ring
    ∧ (expireDoc h s).index.template = s.index.template := by
  simp [expireDoc]

@[simp] theorem expireDoc_ports (h : Nat) (s : State) (q : Port) :
    ((expireDoc h s).ports.get q).cls = (s.ports.get q).cls ∧ ((expireDoc h s).ports.get q).up = (s.ports.get q).up
    := by
  simp [expireDoc]

@[simp] theorem expireDocs_keeps (l : List Nat) (s : State) :
    (l.foldl (fun s h => expireDoc h s) s).now = s.now ∧ (l.foldl (fun s h => expireDoc h s) s).pending = s.pending
    ∧ (l.foldl (fun s h => expireDoc h s) s).store.quota = s.store.quota
    ∧ (l.foldl (fun s h => expireDoc h s) s).comp.sheet = s.comp.sheet
    ∧ (l.foldl (fun s h => expireDoc h s) s).comp.halts = s.comp.halts
    ∧ (l.foldl (fun s h => expireDoc h s) s).comp.layouts = s.comp.layouts
    ∧ (l.foldl (fun s h => expireDoc h s) s).comp.nextLayout = s.comp.nextLayout
    ∧ (l.foldl (fun s h => expireDoc h s) s).comp.group = s.comp.group
    ∧ (l.foldl (fun s h => expireDoc h s) s).comp.pauseLimit = s.comp.pauseLimit
    ∧ (l.foldl (fun s h => expireDoc h s) s).comp.completionLimit = s.comp.completionLimit
    ∧ (l.foldl (fun s h => expireDoc h s) s).comp.ageLimit = s.comp.ageLimit
    ∧ (l.foldl (fun s h => expireDoc h s) s).comp.starveClose = s.comp.starveClose
    ∧ (l.foldl (fun s h => expireDoc h s) s).comp.nextSerial = s.comp.nextSerial
    ∧ (l.foldl (fun s h => expireDoc h s) s).comp.greatest = s.comp.greatest
    ∧ (l.foldl (fun s h => expireDoc h s) s).comp.cell = s.comp.cell
    ∧ (l.foldl (fun s h => expireDoc h s) s).dose = s.dose
    ∧ (l.foldl (fun s h => expireDoc h s) s).writer = s.writer
    ∧ (l.foldl (fun s h => expireDoc h s) s).beam = s.beam ∧ (l.foldl (fun s h => expireDoc h s) s).film = s.film
    ∧ (l.foldl (fun s h => expireDoc h s) s).index.ring = s.index.ring
    ∧ (l.foldl (fun s h => expireDoc h s) s).index.template = s.index.template := by
  induction l generalizing s with
  | nil => simp
  | cons a l ih =>
    simp only [List.foldl_cons, ih]
    simp

@[simp] theorem expireDocs_ports (l : List Nat) (s : State) (q : Port) :
    ((l.foldl (fun s h => expireDoc h s) s).ports.get q).cls = (s.ports.get q).cls
    ∧ ((l.foldl (fun s h => expireDoc h s) s).ports.get q).up = (s.ports.get q).up := by
  induction l generalizing s with
  | nil => simp
  | cons a l ih =>
    simp only [List.foldl_cons, ih]
    simp

@[simp] theorem expireCompletion_keeps (s : State) :
    (expireCompletion s).now = s.now ∧ (expireCompletion s).pending = s.pending
    ∧ (expireCompletion s).store.quota = s.store.quota ∧ (expireCompletion s).comp.sheet = s.comp.sheet
    ∧ (expireCompletion s).comp.halts = s.comp.halts ∧ (expireCompletion s).comp.layouts = s.comp.layouts
    ∧ (expireCompletion s).comp.nextLayout = s.comp.nextLayout ∧ (expireCompletion s).comp.group = s.comp.group
    ∧ (expireCompletion s).comp.pauseLimit = s.comp.pauseLimit
    ∧ (expireCompletion s).comp.completionLimit = s.comp.completionLimit
    ∧ (expireCompletion s).comp.ageLimit = s.comp.ageLimit
    ∧ (expireCompletion s).comp.starveClose = s.comp.starveClose
    ∧ (expireCompletion s).comp.nextSerial = s.comp.nextSerial
    ∧ (expireCompletion s).comp.greatest = s.comp.greatest ∧ (expireCompletion s).comp.cell = s.comp.cell
    ∧ (expireCompletion s).dose = s.dose ∧ (expireCompletion s).writer = s.writer
    ∧ (expireCompletion s).beam = s.beam ∧ (expireCompletion s).film = s.film
    ∧ (expireCompletion s).index.ring = s.index.ring ∧ (expireCompletion s).index.template = s.index.template := by
  simp only [expireCompletion]
  (repeat' split) <;> simp

@[simp] theorem expireCompletion_ports (s : State) (q : Port) :
    ((expireCompletion s).ports.get q).cls = (s.ports.get q).cls
    ∧ ((expireCompletion s).ports.get q).up = (s.ports.get q).up := by
  simp only [expireCompletion]
  (repeat' split) <;> simp

@[simp] theorem applyCompletion_keeps (s : State) :
    (applyCompletion s).now = s.now ∧ (applyCompletion s).pending = s.pending
    ∧ (applyCompletion s).store.quota = s.store.quota ∧ (applyCompletion s).comp.sheet = s.comp.sheet
    ∧ (applyCompletion s).comp.halts = s.comp.halts ∧ (applyCompletion s).comp.layouts = s.comp.layouts
    ∧ (applyCompletion s).comp.nextLayout = s.comp.nextLayout ∧ (applyCompletion s).comp.group = s.comp.group
    ∧ (applyCompletion s).comp.pauseLimit = s.comp.pauseLimit
    ∧ (applyCompletion s).comp.completionLimit = s.comp.completionLimit
    ∧ (applyCompletion s).comp.ageLimit = s.comp.ageLimit
    ∧ (applyCompletion s).comp.starveClose = s.comp.starveClose
    ∧ (applyCompletion s).comp.nextSerial = s.comp.nextSerial ∧ (applyCompletion s).comp.greatest = s.comp.greatest
    ∧ (applyCompletion s).comp.cell = s.comp.cell ∧ (applyCompletion s).dose = s.dose
    ∧ (applyCompletion s).writer = s.writer ∧ (applyCompletion s).beam = s.beam ∧ (applyCompletion s).film = s.film
    ∧ (applyCompletion s).index.ring = s.index.ring ∧ (applyCompletion s).index.template = s.index.template := by
  simp only [applyCompletion]
  (repeat' split) <;> simp

@[simp] theorem applyCompletion_ports (s : State) (q : Port) :
    ((applyCompletion s).ports.get q).cls = (s.ports.get q).cls
    ∧ ((applyCompletion s).ports.get q).up = (s.ports.get q).up := by
  simp only [applyCompletion]
  (repeat' split) <;> simp

@[simp] theorem answerWriter_keeps (status : Status) (s : State) (a : Port) :
    (answerWriter status s a).now = s.now
    ∧ (answerWriter status s a).choices = s.choices
    ∧ (answerWriter status s a).pending = s.pending
    ∧ (answerWriter status s a).docs = s.docs
    ∧ (answerWriter status s a).store = s.store
    ∧ (answerWriter status s a).comp = s.comp
    ∧ (answerWriter status s a).dose = s.dose
    ∧ (answerWriter status s a).writer = s.writer
    ∧ (answerWriter status s a).beam = s.beam
    ∧ (answerWriter status s a).film = s.film
    ∧ (answerWriter status s a).index = s.index := by
  simp only [answerWriter]
  (repeat' split) <;> simp

@[simp] theorem answerAll_keeps (status : Status) (l : List Port) (s : State) :
    (l.foldl (answerWriter status) s).now = s.now
    ∧ (l.foldl (answerWriter status) s).choices = s.choices
    ∧ (l.foldl (answerWriter status) s).pending = s.pending
    ∧ (l.foldl (answerWriter status) s).docs = s.docs
    ∧ (l.foldl (answerWriter status) s).store = s.store
    ∧ (l.foldl (answerWriter status) s).comp = s.comp
    ∧ (l.foldl (answerWriter status) s).dose = s.dose
    ∧ (l.foldl (answerWriter status) s).writer = s.writer
    ∧ (l.foldl (answerWriter status) s).beam = s.beam
    ∧ (l.foldl (answerWriter status) s).film = s.film
    ∧ (l.foldl (answerWriter status) s).index = s.index := by
  induction l generalizing s with
  | nil => simp
  | cons a l ih => simp [ih]

@[simp] theorem answerWriter_ports (status : Status) (s : State) (a : Port) (q : Port) :
    ((answerWriter status s a).ports.get q).cls = (s.ports.get q).cls
    ∧ ((answerWriter status s a).ports.get q).up = (s.ports.get q).up := by
  simp only [answerWriter]
  (repeat' split) <;> simp

@[simp] theorem answerAll_ports (status : Status) (l : List Port) (s : State) (q : Port) :
    ((l.foldl (answerWriter status) s).ports.get q).cls = (s.ports.get q).cls
    ∧ ((l.foldl (answerWriter status) s).ports.get q).up = (s.ports.get q).up := by
  induction l generalizing s with
  | nil => simp
  | cons a l ih => simp [ih]

@[simp] theorem answerWriters_keeps (status : Status) (s : State) :
    (answerWriters status s).now = s.now ∧ (answerWriters status s).choices = s.choices
    ∧ (answerWriters status s).pending = s.pending ∧ (answerWriters status s).docs = s.docs
    ∧ (answerWriters status s).store = s.store ∧ (answerWriters status s).comp = s.comp
    ∧ (answerWriters status s).dose = s.dose ∧ (answerWriters status s).writer = s.writer
    ∧ (answerWriters status s).beam = s.beam ∧ (answerWriters status s).film = s.film
    ∧ (answerWriters status s).index = s.index :=
  answerAll_keeps status _ s

@[simp] theorem answerWriters_ports (status : Status) (s : State) (q : Port) :
    ((answerWriters status s).ports.get q).cls = (s.ports.get q).cls
    ∧ ((answerWriters status s).ports.get q).up = (s.ports.get q).up :=
  answerAll_ports status _ s q

@[simp] theorem writeVerified_keeps (s : State) :
    (writeVerified s).now = s.now ∧ (writeVerified s).choices = s.choices ∧ (writeVerified s).pending = s.pending
    ∧ (writeVerified s).docs = s.docs ∧ (writeVerified s).store = s.store
    ∧ (writeVerified s).comp.layouts = s.comp.layouts ∧ (writeVerified s).comp.nextLayout = s.comp.nextLayout
    ∧ (writeVerified s).comp.group = s.comp.group ∧ (writeVerified s).comp.pauseLimit = s.comp.pauseLimit
    ∧ (writeVerified s).comp.completionLimit = s.comp.completionLimit
    ∧ (writeVerified s).comp.ageLimit = s.comp.ageLimit ∧ (writeVerified s).comp.starveClose = s.comp.starveClose
    ∧ (writeVerified s).dose.gain = s.dose.gain ∧ (writeVerified s).dose.dotTime = s.dose.dotTime
    ∧ (writeVerified s).dose.response = s.dose.response ∧ (writeVerified s).dose.frame = s.dose.frame
    ∧ (writeVerified s).writer.site = s.writer.site ∧ (writeVerified s).beam.state = s.beam.state
    ∧ (writeVerified s).beam.floorIndex = s.beam.floorIndex ∧ (writeVerified s).beam.drift = s.beam.drift
    ∧ (writeVerified s).film.film = s.film.film ∧ (writeVerified s).film.lot = s.film.lot
    ∧ (writeVerified s).film.factor = s.film.factor ∧ (writeVerified s).index.ring = s.index.ring
    ∧ (writeVerified s).index.template = s.index.template := by
  simp only [writeVerified]
  (repeat' split) <;> simp

@[simp] theorem writeVerified_ports (s : State) (q : Port) :
    ((writeVerified s).ports.get q).cls = (s.ports.get q).cls
    ∧ ((writeVerified s).ports.get q).up = (s.ports.get q).up := by
  simp only [writeVerified]
  (repeat' split) <;> simp

@[simp] theorem writeFailed_keeps (s : State) :
    (writeFailed s).now = s.now ∧ (writeFailed s).choices = s.choices ∧ (writeFailed s).pending = s.pending
    ∧ (writeFailed s).docs = s.docs ∧ (writeFailed s).store = s.store ∧ (writeFailed s).comp.sheet = s.comp.sheet
    ∧ (writeFailed s).comp.layouts = s.comp.layouts ∧ (writeFailed s).comp.nextLayout = s.comp.nextLayout
    ∧ (writeFailed s).comp.group = s.comp.group ∧ (writeFailed s).comp.pauseLimit = s.comp.pauseLimit
    ∧ (writeFailed s).comp.completionLimit = s.comp.completionLimit
    ∧ (writeFailed s).comp.ageLimit = s.comp.ageLimit ∧ (writeFailed s).comp.starveClose = s.comp.starveClose
    ∧ (writeFailed s).comp.nextSerial = s.comp.nextSerial ∧ (writeFailed s).comp.greatest = s.comp.greatest
    ∧ (writeFailed s).comp.cell = s.comp.cell ∧ (writeFailed s).dose = s.dose
    ∧ (writeFailed s).writer.site = s.writer.site ∧ (writeFailed s).beam = s.beam ∧ (writeFailed s).film = s.film
    ∧ (writeFailed s).index = s.index := by
  simp [writeFailed]

@[simp] theorem writeFailed_ports (s : State) (q : Port) :
    ((writeFailed s).ports.get q).cls = (s.ports.get q).cls ∧ ((writeFailed s).ports.get q).up = (s.ports.get q).up
    := by
  simp [writeFailed]

@[simp] theorem finishDoc_keeps (s : State) (a : Nat) :
    (finishDoc s a).now = s.now
    ∧ (finishDoc s a).pending = s.pending
    ∧ (finishDoc s a).store.quota = s.store.quota
    ∧ (finishDoc s a).comp.sheet = s.comp.sheet
    ∧ (finishDoc s a).comp.halts = s.comp.halts
    ∧ (finishDoc s a).comp.layouts = s.comp.layouts
    ∧ (finishDoc s a).comp.nextLayout = s.comp.nextLayout
    ∧ (finishDoc s a).comp.group = s.comp.group
    ∧ (finishDoc s a).comp.pauseLimit = s.comp.pauseLimit
    ∧ (finishDoc s a).comp.completionLimit = s.comp.completionLimit
    ∧ (finishDoc s a).comp.ageLimit = s.comp.ageLimit
    ∧ (finishDoc s a).comp.starveClose = s.comp.starveClose
    ∧ (finishDoc s a).comp.nextSerial = s.comp.nextSerial
    ∧ (finishDoc s a).comp.greatest = s.comp.greatest
    ∧ (finishDoc s a).comp.cell = s.comp.cell
    ∧ (finishDoc s a).dose = s.dose
    ∧ (finishDoc s a).writer = s.writer
    ∧ (finishDoc s a).beam = s.beam
    ∧ (finishDoc s a).film = s.film
    ∧ (finishDoc s a).index = s.index := by
  simp only [finishDoc]
  (repeat' split) <;> simp

@[simp] theorem finishAll_keeps (l : List Nat) (s : State) :
    (l.foldl finishDoc s).now = s.now
    ∧ (l.foldl finishDoc s).pending = s.pending
    ∧ (l.foldl finishDoc s).store.quota = s.store.quota
    ∧ (l.foldl finishDoc s).comp.sheet = s.comp.sheet
    ∧ (l.foldl finishDoc s).comp.halts = s.comp.halts
    ∧ (l.foldl finishDoc s).comp.layouts = s.comp.layouts
    ∧ (l.foldl finishDoc s).comp.nextLayout = s.comp.nextLayout
    ∧ (l.foldl finishDoc s).comp.group = s.comp.group
    ∧ (l.foldl finishDoc s).comp.pauseLimit = s.comp.pauseLimit
    ∧ (l.foldl finishDoc s).comp.completionLimit = s.comp.completionLimit
    ∧ (l.foldl finishDoc s).comp.ageLimit = s.comp.ageLimit
    ∧ (l.foldl finishDoc s).comp.starveClose = s.comp.starveClose
    ∧ (l.foldl finishDoc s).comp.nextSerial = s.comp.nextSerial
    ∧ (l.foldl finishDoc s).comp.greatest = s.comp.greatest
    ∧ (l.foldl finishDoc s).comp.cell = s.comp.cell
    ∧ (l.foldl finishDoc s).dose = s.dose
    ∧ (l.foldl finishDoc s).writer = s.writer
    ∧ (l.foldl finishDoc s).beam = s.beam
    ∧ (l.foldl finishDoc s).film = s.film
    ∧ (l.foldl finishDoc s).index = s.index := by
  induction l generalizing s with
  | nil => simp
  | cons a l ih => simp [ih]

@[simp] theorem finishDoc_ports (s : State) (a : Nat) (q : Port) :
    ((finishDoc s a).ports.get q).cls = (s.ports.get q).cls
    ∧ ((finishDoc s a).ports.get q).up = (s.ports.get q).up := by
  simp only [finishDoc]
  (repeat' split) <;> simp

@[simp] theorem finishAll_ports (l : List Nat) (s : State) (q : Port) :
    ((l.foldl finishDoc s).ports.get q).cls = (s.ports.get q).cls
    ∧ ((l.foldl finishDoc s).ports.get q).up = (s.ports.get q).up := by
  induction l generalizing s with
  | nil => simp
  | cons a l ih => simp [ih]

@[simp] theorem finishDocs_keeps (s : State) :
    (finishDocs s).now = s.now ∧ (finishDocs s).pending = s.pending ∧ (finishDocs s).store.quota = s.store.quota
    ∧ (finishDocs s).comp.sheet = s.comp.sheet ∧ (finishDocs s).comp.halts = s.comp.halts
    ∧ (finishDocs s).comp.layouts = s.comp.layouts ∧ (finishDocs s).comp.nextLayout = s.comp.nextLayout
    ∧ (finishDocs s).comp.group = s.comp.group ∧ (finishDocs s).comp.pauseLimit = s.comp.pauseLimit
    ∧ (finishDocs s).comp.completionLimit = s.comp.completionLimit ∧ (finishDocs s).comp.ageLimit = s.comp.ageLimit
    ∧ (finishDocs s).comp.starveClose = s.comp.starveClose ∧ (finishDocs s).comp.nextSerial = s.comp.nextSerial
    ∧ (finishDocs s).comp.greatest = s.comp.greatest ∧ (finishDocs s).comp.cell = s.comp.cell
    ∧ (finishDocs s).dose = s.dose ∧ (finishDocs s).writer = s.writer ∧ (finishDocs s).beam = s.beam
    ∧ (finishDocs s).film = s.film ∧ (finishDocs s).index = s.index :=
  finishAll_keeps _ s

@[simp] theorem finishDocs_ports (s : State) (q : Port) :
    ((finishDocs s).ports.get q).cls = (s.ports.get q).cls ∧ ((finishDocs s).ports.get q).up = (s.ports.get q).up :=
  finishAll_ports _ s q

@[simp] theorem testReleases_keeps (l : List Nat) (s : State) :
    (l.foldl (fun s h => testRelease h s) s).now = s.now
    ∧ (l.foldl (fun s h => testRelease h s) s).pending = s.pending
    ∧ (l.foldl (fun s h => testRelease h s) s).docs.queues = s.docs.queues
    ∧ (l.foldl (fun s h => testRelease h s) s).store.quota = s.store.quota
    ∧ (l.foldl (fun s h => testRelease h s) s).comp = s.comp
    ∧ (l.foldl (fun s h => testRelease h s) s).dose = s.dose
    ∧ (l.foldl (fun s h => testRelease h s) s).writer = s.writer
    ∧ (l.foldl (fun s h => testRelease h s) s).beam = s.beam
    ∧ (l.foldl (fun s h => testRelease h s) s).film = s.film
    ∧ (l.foldl (fun s h => testRelease h s) s).index = s.index := by
  induction l generalizing s with
  | nil => simp
  | cons a l ih =>
    simp only [List.foldl_cons, ih]
    simp

@[simp] theorem testReleases_ports (l : List Nat) (s : State) (q : Port) :
    ((l.foldl (fun s h => testRelease h s) s).ports.get q).cls = (s.ports.get q).cls
    ∧ ((l.foldl (fun s h => testRelease h s) s).ports.get q).up = (s.ports.get q).up := by
  induction l generalizing s with
  | nil => simp
  | cons a l ih =>
    simp only [List.foldl_cons, ih]
    simp

@[simp] theorem reclaimDocs_keeps (s : State) :
    (reclaimDocs s).now = s.now ∧ (reclaimDocs s).pending = s.pending ∧ (reclaimDocs s).docs.queues = s.docs.queues
    ∧ (reclaimDocs s).store.quota = s.store.quota ∧ (reclaimDocs s).comp = s.comp ∧ (reclaimDocs s).dose = s.dose
    ∧ (reclaimDocs s).writer = s.writer ∧ (reclaimDocs s).beam = s.beam ∧ (reclaimDocs s).film = s.film
    ∧ (reclaimDocs s).index = s.index := by
  simp [reclaimDocs]

@[simp] theorem reclaimDocs_ports (s : State) (q : Port) :
    ((reclaimDocs s).ports.get q).cls = (s.ports.get q).cls ∧ ((reclaimDocs s).ports.get q).up = (s.ports.get q).up
    := by
  simp [reclaimDocs]

@[simp] theorem finishSheet_keeps (s : State) :
    (finishSheet s).now = s.now ∧ (finishSheet s).pending = s.pending ∧ (finishSheet s).store.quota = s.store.quota
    ∧ (finishSheet s).comp.halts = s.comp.halts ∧ (finishSheet s).comp.layouts = s.comp.layouts
    ∧ (finishSheet s).comp.nextLayout = s.comp.nextLayout ∧ (finishSheet s).comp.group = s.comp.group
    ∧ (finishSheet s).comp.pauseLimit = s.comp.pauseLimit
    ∧ (finishSheet s).comp.completionLimit = s.comp.completionLimit
    ∧ (finishSheet s).comp.ageLimit = s.comp.ageLimit ∧ (finishSheet s).comp.starveClose = s.comp.starveClose
    ∧ (finishSheet s).comp.nextSerial = s.comp.nextSerial ∧ (finishSheet s).comp.greatest = s.comp.greatest
    ∧ (finishSheet s).comp.cell = s.comp.cell ∧ (finishSheet s).dose = s.dose ∧ (finishSheet s).writer = s.writer
    ∧ (finishSheet s).beam = s.beam ∧ (finishSheet s).film.count = s.film.count
    ∧ (finishSheet s).film.lot = s.film.lot ∧ (finishSheet s).film.factor = s.film.factor
    ∧ (finishSheet s).film.gateDue = s.film.gateDue ∧ (finishSheet s).index.template = s.index.template := by
  simp only [finishSheet]
  (repeat' split) <;> simp

@[simp] theorem finishSheet_ports (s : State) (q : Port) :
    ((finishSheet s).ports.get q).cls = (s.ports.get q).cls ∧ ((finishSheet s).ports.get q).up = (s.ports.get q).up
    := by
  simp only [finishSheet]
  (repeat' split) <;> simp

@[simp] theorem answerResume_keeps (p : Port) (tag reading : Nat) (s : State) :
    (answerResume p tag reading s).now = s.now ∧ (answerResume p tag reading s).choices = s.choices
    ∧ (answerResume p tag reading s).pending = s.pending ∧ (answerResume p tag reading s).docs = s.docs
    ∧ (answerResume p tag reading s).store = s.store ∧ (answerResume p tag reading s).comp.sheet = s.comp.sheet
    ∧ (answerResume p tag reading s).comp.layouts = s.comp.layouts
    ∧ (answerResume p tag reading s).comp.nextLayout = s.comp.nextLayout
    ∧ (answerResume p tag reading s).comp.group = s.comp.group
    ∧ (answerResume p tag reading s).comp.pauseLimit = s.comp.pauseLimit
    ∧ (answerResume p tag reading s).comp.completionLimit = s.comp.completionLimit
    ∧ (answerResume p tag reading s).comp.ageLimit = s.comp.ageLimit
    ∧ (answerResume p tag reading s).comp.starveClose = s.comp.starveClose
    ∧ (answerResume p tag reading s).comp.nextSerial = s.comp.nextSerial
    ∧ (answerResume p tag reading s).comp.greatest = s.comp.greatest
    ∧ (answerResume p tag reading s).comp.cell = s.comp.cell ∧ (answerResume p tag reading s).dose = s.dose
    ∧ (answerResume p tag reading s).writer.site = s.writer.site ∧ (answerResume p tag reading s).beam = s.beam
    ∧ (answerResume p tag reading s).film = s.film ∧ (answerResume p tag reading s).index = s.index := by
  simp only [answerResume]
  (repeat' split) <;> simp

@[simp] theorem answerResume_ports (p : Port) (tag reading : Nat) (s : State) (q : Port) :
    ((answerResume p tag reading s).ports.get q).cls = (s.ports.get q).cls
    ∧ ((answerResume p tag reading s).ports.get q).up = (s.ports.get q).up := by
  simp only [answerResume]
  (repeat' split) <;> simp

@[simp] theorem answerReading_keeps (reading : Nat) (s : State) (p : Port) :
    (answerReading reading s p).now = s.now ∧ (answerReading reading s p).choices = s.choices
    ∧ (answerReading reading s p).pending = s.pending ∧ (answerReading reading s p).docs = s.docs
    ∧ (answerReading reading s p).store = s.store ∧ (answerReading reading s p).comp.sheet = s.comp.sheet
    ∧ (answerReading reading s p).comp.layouts = s.comp.layouts
    ∧ (answerReading reading s p).comp.nextLayout = s.comp.nextLayout
    ∧ (answerReading reading s p).comp.group = s.comp.group
    ∧ (answerReading reading s p).comp.pauseLimit = s.comp.pauseLimit
    ∧ (answerReading reading s p).comp.completionLimit = s.comp.completionLimit
    ∧ (answerReading reading s p).comp.ageLimit = s.comp.ageLimit
    ∧ (answerReading reading s p).comp.starveClose = s.comp.starveClose
    ∧ (answerReading reading s p).comp.nextSerial = s.comp.nextSerial
    ∧ (answerReading reading s p).comp.greatest = s.comp.greatest
    ∧ (answerReading reading s p).comp.cell = s.comp.cell ∧ (answerReading reading s p).dose = s.dose
    ∧ (answerReading reading s p).writer.site = s.writer.site ∧ (answerReading reading s p).beam = s.beam
    ∧ (answerReading reading s p).film = s.film ∧ (answerReading reading s p).index = s.index := by
  simp only [answerReading]
  (repeat' split) <;> simp

@[simp] theorem answerReading_ports (reading : Nat) (s : State) (p : Port) (q : Port) :
    ((answerReading reading s p).ports.get q).cls = (s.ports.get q).cls
    ∧ ((answerReading reading s p).ports.get q).up = (s.ports.get q).up := by
  simp only [answerReading]
  (repeat' split) <;> simp

@[simp] theorem beginWaiting_keeps (s : State) :
    (beginWaiting s).now = s.now ∧ (beginWaiting s).choices = s.choices ∧ (beginWaiting s).pending = s.pending
    ∧ (beginWaiting s).ports = s.ports ∧ (beginWaiting s).docs = s.docs ∧ (beginWaiting s).store = s.store
    ∧ (beginWaiting s).comp = s.comp ∧ (beginWaiting s).dose = s.dose ∧ (beginWaiting s).writer = s.writer
    ∧ (beginWaiting s).beam.state = s.beam.state ∧ (beginWaiting s).beam.floorIndex = s.beam.floorIndex
    ∧ (beginWaiting s).beam.drift = s.beam.drift ∧ (beginWaiting s).film = s.film ∧ (beginWaiting s).index = s.index
    := by
  simp only [beginWaiting]
  (repeat' split) <;> simp

@[simp] theorem startWriting_keeps (reading : Nat) (s : State) :
    (startWriting reading s).now = s.now ∧ (startWriting reading s).choices = s.choices
    ∧ (startWriting reading s).pending = s.pending ∧ (startWriting reading s).docs = s.docs
    ∧ (startWriting reading s).store.memory = s.store.memory ∧ (startWriting reading s).store.pages = s.store.pages
    ∧ (startWriting reading s).store.freeList = s.store.freeList
    ∧ (startWriting reading s).store.held = s.store.held ∧ (startWriting reading s).store.quota = s.store.quota
    ∧ (startWriting reading s).comp = s.comp ∧ (startWriting reading s).dose = s.dose
    ∧ (startWriting reading s).beam.state = s.beam.state
    ∧ (startWriting reading s).beam.floorIndex = s.beam.floorIndex
    ∧ (startWriting reading s).beam.drift = s.beam.drift ∧ (startWriting reading s).film = s.film
    ∧ (startWriting reading s).index.ring = s.index.ring
    ∧ (startWriting reading s).index.template = s.index.template := by
  simp [startWriting]

@[simp] theorem startWriting_ports (reading : Nat) (s : State) (q : Port) :
    ((startWriting reading s).ports.get q).cls = (s.ports.get q).cls
    ∧ ((startWriting reading s).ports.get q).up = (s.ports.get q).up := by
  simp [startWriting]

@[simp] theorem resumeWriting_keeps (reading : Nat) (s : State) :
    (resumeWriting reading s).now = s.now ∧ (resumeWriting reading s).choices = s.choices
    ∧ (resumeWriting reading s).pending = s.pending ∧ (resumeWriting reading s).docs = s.docs
    ∧ (resumeWriting reading s).store.memory = s.store.memory
    ∧ (resumeWriting reading s).store.pages = s.store.pages
    ∧ (resumeWriting reading s).store.freeList = s.store.freeList
    ∧ (resumeWriting reading s).store.held = s.store.held ∧ (resumeWriting reading s).store.quota = s.store.quota
    ∧ (resumeWriting reading s).comp = s.comp ∧ (resumeWriting reading s).dose = s.dose
    ∧ (resumeWriting reading s).beam.state = s.beam.state
    ∧ (resumeWriting reading s).beam.floorIndex = s.beam.floorIndex
    ∧ (resumeWriting reading s).beam.drift = s.beam.drift ∧ (resumeWriting reading s).film = s.film
    ∧ (resumeWriting reading s).index.ring = s.index.ring
    ∧ (resumeWriting reading s).index.template = s.index.template := by
  simp [resumeWriting]

@[simp] theorem resumeWriting_ports (reading : Nat) (s : State) (q : Port) :
    ((resumeWriting reading s).ports.get q).cls = (s.ports.get q).cls
    ∧ ((resumeWriting reading s).ports.get q).up = (s.ports.get q).up := by
  simp [resumeWriting]

@[simp] theorem spoilBeam_keeps (reading : Nat) (s : State) :
    (spoilBeam reading s).now = s.now ∧ (spoilBeam reading s).choices = s.choices
    ∧ (spoilBeam reading s).pending = s.pending ∧ (spoilBeam reading s).docs.queues = s.docs.queues
    ∧ (spoilBeam reading s).store.memory = s.store.memory ∧ (spoilBeam reading s).store.pages = s.store.pages
    ∧ (spoilBeam reading s).store.freeList = s.store.freeList ∧ (spoilBeam reading s).store.held = s.store.held
    ∧ (spoilBeam reading s).store.quota = s.store.quota ∧ (spoilBeam reading s).comp.sheet = s.comp.sheet
    ∧ (spoilBeam reading s).comp.layouts = s.comp.layouts
    ∧ (spoilBeam reading s).comp.nextLayout = s.comp.nextLayout ∧ (spoilBeam reading s).comp.group = s.comp.group
    ∧ (spoilBeam reading s).comp.pauseLimit = s.comp.pauseLimit
    ∧ (spoilBeam reading s).comp.completionLimit = s.comp.completionLimit
    ∧ (spoilBeam reading s).comp.ageLimit = s.comp.ageLimit
    ∧ (spoilBeam reading s).comp.starveClose = s.comp.starveClose
    ∧ (spoilBeam reading s).comp.nextSerial = s.comp.nextSerial
    ∧ (spoilBeam reading s).comp.greatest = s.comp.greatest ∧ (spoilBeam reading s).comp.cell = s.comp.cell
    ∧ (spoilBeam reading s).dose = s.dose ∧ (spoilBeam reading s).beam.state = s.beam.state
    ∧ (spoilBeam reading s).beam.floorIndex = s.beam.floorIndex ∧ (spoilBeam reading s).beam.drift = s.beam.drift
    ∧ (spoilBeam reading s).film.film = s.film.film ∧ (spoilBeam reading s).film.count = s.film.count
    ∧ (spoilBeam reading s).film.lot = s.film.lot ∧ (spoilBeam reading s).film.factor = s.film.factor
    ∧ (spoilBeam reading s).film.gateDue = s.film.gateDue ∧ (spoilBeam reading s).index.ring = s.index.ring
    ∧ (spoilBeam reading s).index.template = s.index.template := by
  simp [spoilBeam]

@[simp] theorem spoilBeam_ports (reading : Nat) (s : State) (q : Port) :
    ((spoilBeam reading s).ports.get q).cls = (s.ports.get q).cls
    ∧ ((spoilBeam reading s).ports.get q).up = (s.ports.get q).up := by
  simp [spoilBeam]

@[simp] theorem writerSample_keeps (reading : Nat) (s : State) :
    (writerSample reading s).now = s.now ∧ (writerSample reading s).choices = s.choices
    ∧ (writerSample reading s).pending = s.pending ∧ (writerSample reading s).docs.queues = s.docs.queues
    ∧ (writerSample reading s).store.memory = s.store.memory ∧ (writerSample reading s).store.pages = s.store.pages
    ∧ (writerSample reading s).store.freeList = s.store.freeList
    ∧ (writerSample reading s).store.held = s.store.held ∧ (writerSample reading s).store.quota = s.store.quota
    ∧ (writerSample reading s).comp.sheet = s.comp.sheet ∧ (writerSample reading s).comp.layouts = s.comp.layouts
    ∧ (writerSample reading s).comp.nextLayout = s.comp.nextLayout
    ∧ (writerSample reading s).comp.group = s.comp.group
    ∧ (writerSample reading s).comp.pauseLimit = s.comp.pauseLimit
    ∧ (writerSample reading s).comp.completionLimit = s.comp.completionLimit
    ∧ (writerSample reading s).comp.ageLimit = s.comp.ageLimit
    ∧ (writerSample reading s).comp.starveClose = s.comp.starveClose
    ∧ (writerSample reading s).comp.nextSerial = s.comp.nextSerial
    ∧ (writerSample reading s).comp.greatest = s.comp.greatest ∧ (writerSample reading s).comp.cell = s.comp.cell
    ∧ (writerSample reading s).dose = s.dose ∧ (writerSample reading s).beam.state = s.beam.state
    ∧ (writerSample reading s).beam.floorIndex = s.beam.floorIndex
    ∧ (writerSample reading s).beam.drift = s.beam.drift ∧ (writerSample reading s).film.film = s.film.film
    ∧ (writerSample reading s).film.count = s.film.count ∧ (writerSample reading s).film.lot = s.film.lot
    ∧ (writerSample reading s).film.factor = s.film.factor ∧ (writerSample reading s).film.gateDue = s.film.gateDue
    ∧ (writerSample reading s).index.ring = s.index.ring
    ∧ (writerSample reading s).index.template = s.index.template := by
  simp only [writerSample]
  (repeat' split) <;> simp

@[simp] theorem writerSample_ports (reading : Nat) (s : State) (q : Port) :
    ((writerSample reading s).ports.get q).cls = (s.ports.get q).cls
    ∧ ((writerSample reading s).ports.get q).up = (s.ports.get q).up := by
  simp only [writerSample]
  (repeat' split) <;> simp

@[simp] theorem dueLine_keeps (s : State) :
    (dueLine s).now = s.now ∧ (dueLine s).choices = s.choices ∧ (dueLine s).pending = s.pending
    ∧ (dueLine s).docs = s.docs ∧ (dueLine s).store.memory = s.store.memory
    ∧ (dueLine s).store.pages = s.store.pages ∧ (dueLine s).store.freeList = s.store.freeList
    ∧ (dueLine s).store.held = s.store.held ∧ (dueLine s).store.quota = s.store.quota ∧ (dueLine s).comp = s.comp
    ∧ (dueLine s).dose = s.dose ∧ (dueLine s).beam.state = s.beam.state
    ∧ (dueLine s).beam.floorIndex = s.beam.floorIndex ∧ (dueLine s).beam.drift = s.beam.drift
    ∧ (dueLine s).film = s.film ∧ (dueLine s).index.ring = s.index.ring
    ∧ (dueLine s).index.template = s.index.template := by
  simp only [dueLine]
  (repeat' split) <;> simp

@[simp] theorem dueLine_ports (s : State) (q : Port) :
    ((dueLine s).ports.get q).cls = (s.ports.get q).cls ∧ ((dueLine s).ports.get q).up = (s.ports.get q).up := by
  simp only [dueLine]
  (repeat' split) <;> simp

@[simp] theorem answerReadings_keeps (reading : Nat) (l : List Port) (s : State) :
    (l.foldl (answerReading reading) s).now = s.now ∧ (l.foldl (answerReading reading) s).choices = s.choices
    ∧ (l.foldl (answerReading reading) s).pending = s.pending ∧ (l.foldl (answerReading reading) s).docs = s.docs
    ∧ (l.foldl (answerReading reading) s).store = s.store
    ∧ (l.foldl (answerReading reading) s).comp.sheet = s.comp.sheet
    ∧ (l.foldl (answerReading reading) s).comp.layouts = s.comp.layouts
    ∧ (l.foldl (answerReading reading) s).comp.nextLayout = s.comp.nextLayout
    ∧ (l.foldl (answerReading reading) s).comp.group = s.comp.group
    ∧ (l.foldl (answerReading reading) s).comp.pauseLimit = s.comp.pauseLimit
    ∧ (l.foldl (answerReading reading) s).comp.completionLimit = s.comp.completionLimit
    ∧ (l.foldl (answerReading reading) s).comp.ageLimit = s.comp.ageLimit
    ∧ (l.foldl (answerReading reading) s).comp.starveClose = s.comp.starveClose
    ∧ (l.foldl (answerReading reading) s).comp.nextSerial = s.comp.nextSerial
    ∧ (l.foldl (answerReading reading) s).comp.greatest = s.comp.greatest
    ∧ (l.foldl (answerReading reading) s).comp.cell = s.comp.cell
    ∧ (l.foldl (answerReading reading) s).dose = s.dose
    ∧ (l.foldl (answerReading reading) s).writer.site = s.writer.site
    ∧ (l.foldl (answerReading reading) s).beam = s.beam ∧ (l.foldl (answerReading reading) s).film = s.film
    ∧ (l.foldl (answerReading reading) s).index = s.index := by
  induction l generalizing s with
  | nil => simp
  | cons a l ih =>
    simp only [List.foldl_cons, ih]
    simp

@[simp] theorem answerReadings_ports (reading : Nat) (l : List Port) (s : State) (q : Port) :
    ((l.foldl (answerReading reading) s).ports.get q).cls = (s.ports.get q).cls
    ∧ ((l.foldl (answerReading reading) s).ports.get q).up = (s.ports.get q).up := by
  induction l generalizing s with
  | nil => simp
  | cons a l ih =>
    simp only [List.foldl_cons, ih]
    simp

@[simp] theorem completeMeasurement_keeps (reading : Nat) (s : State) :
    (completeMeasurement reading s).now = s.now ∧ (completeMeasurement reading s).choices = s.choices
    ∧ (completeMeasurement reading s).pending = s.pending
    ∧ (completeMeasurement reading s).docs.queues = s.docs.queues
    ∧ (completeMeasurement reading s).store.memory = s.store.memory
    ∧ (completeMeasurement reading s).store.pages = s.store.pages
    ∧ (completeMeasurement reading s).store.freeList = s.store.freeList
    ∧ (completeMeasurement reading s).store.held = s.store.held
    ∧ (completeMeasurement reading s).store.quota = s.store.quota
    ∧ (completeMeasurement reading s).comp.layouts = s.comp.layouts
    ∧ (completeMeasurement reading s).comp.nextLayout = s.comp.nextLayout
    ∧ (completeMeasurement reading s).comp.group = s.comp.group
    ∧ (completeMeasurement reading s).comp.pauseLimit = s.comp.pauseLimit
    ∧ (completeMeasurement reading s).comp.completionLimit = s.comp.completionLimit
    ∧ (completeMeasurement reading s).comp.ageLimit = s.comp.ageLimit
    ∧ (completeMeasurement reading s).comp.starveClose = s.comp.starveClose
    ∧ (completeMeasurement reading s).comp.cell = s.comp.cell
    ∧ (completeMeasurement reading s).dose.gain = s.dose.gain
    ∧ (completeMeasurement reading s).dose.dotTime = s.dose.dotTime
    ∧ (completeMeasurement reading s).dose.response = s.dose.response
    ∧ (completeMeasurement reading s).dose.frame = s.dose.frame
    ∧ (completeMeasurement reading s).beam.floorIndex = s.beam.floorIndex
    ∧ (completeMeasurement reading s).beam.drift = s.beam.drift
    ∧ (completeMeasurement reading s).film.film = s.film.film
    ∧ (completeMeasurement reading s).film.lot = s.film.lot
    ∧ (completeMeasurement reading s).film.factor = s.film.factor
    ∧ (completeMeasurement reading s).index.ring = s.index.ring
    ∧ (completeMeasurement reading s).index.template = s.index.template := by
  simp only [completeMeasurement]
  (repeat' split) <;> simp

@[simp] theorem completeMeasurement_ports (reading : Nat) (s : State) (q : Port) :
    ((completeMeasurement reading s).ports.get q).cls = (s.ports.get q).cls
    ∧ ((completeMeasurement reading s).ports.get q).up = (s.ports.get q).up := by
  simp only [completeMeasurement]
  (repeat' split) <;> simp

@[simp] theorem setTone_keeps (p : Port) (tag port : Nat) (map : List Nat) (s : State) :
    (setTone p tag port map s).now = s.now ∧ (setTone p tag port map s).choices = s.choices
    ∧ (setTone p tag port map s).pending = s.pending ∧ (setTone p tag port map s).docs = s.docs
    ∧ (setTone p tag port map s).store = s.store ∧ (setTone p tag port map s).comp = s.comp
    ∧ (setTone p tag port map s).dose.gain = s.dose.gain ∧ (setTone p tag port map s).dose.dotTime = s.dose.dotTime
    ∧ (setTone p tag port map s).dose.response = s.dose.response
    ∧ (setTone p tag port map s).dose.frame = s.dose.frame ∧ (setTone p tag port map s).writer = s.writer
    ∧ (setTone p tag port map s).beam = s.beam ∧ (setTone p tag port map s).film = s.film
    ∧ (setTone p tag port map s).index = s.index := by
  simp only [setTone]
  (repeat' split) <;> simp

@[simp] theorem setTone_ports (p : Port) (tag port : Nat) (map : List Nat) (s : State) (q : Port) :
    ((setTone p tag port map s).ports.get q).cls = (s.ports.get q).cls
    ∧ ((setTone p tag port map s).ports.get q).up = (s.ports.get q).up := by
  simp only [setTone]
  (repeat' split) <;> simp

@[simp] theorem loadFilm_keeps (count : Nat) (lot : Text) (factor : Nat) (s : State) :
    (loadFilm count lot factor s).now = s.now ∧ (loadFilm count lot factor s).choices = s.choices
    ∧ (loadFilm count lot factor s).pending = s.pending ∧ (loadFilm count lot factor s).ports = s.ports
    ∧ (loadFilm count lot factor s).docs = s.docs ∧ (loadFilm count lot factor s).store = s.store
    ∧ (loadFilm count lot factor s).comp.halts = s.comp.halts
    ∧ (loadFilm count lot factor s).comp.layouts = s.comp.layouts
    ∧ (loadFilm count lot factor s).comp.nextLayout = s.comp.nextLayout
    ∧ (loadFilm count lot factor s).comp.group = s.comp.group
    ∧ (loadFilm count lot factor s).comp.pauseLimit = s.comp.pauseLimit
    ∧ (loadFilm count lot factor s).comp.completionLimit = s.comp.completionLimit
    ∧ (loadFilm count lot factor s).comp.ageLimit = s.comp.ageLimit
    ∧ (loadFilm count lot factor s).comp.starveClose = s.comp.starveClose
    ∧ (loadFilm count lot factor s).comp.nextSerial = s.comp.nextSerial
    ∧ (loadFilm count lot factor s).comp.greatest = s.comp.greatest
    ∧ (loadFilm count lot factor s).comp.cell = s.comp.cell ∧ (loadFilm count lot factor s).dose = s.dose
    ∧ (loadFilm count lot factor s).writer.mode = s.writer.mode
    ∧ (loadFilm count lot factor s).writer.site = s.writer.site
    ∧ (loadFilm count lot factor s).beam.state = s.beam.state
    ∧ (loadFilm count lot factor s).beam.floorIndex = s.beam.floorIndex
    ∧ (loadFilm count lot factor s).beam.drift = s.beam.drift ∧ (loadFilm count lot factor s).index = s.index := by
  simp [loadFilm]

@[simp] theorem unloadFilm_keeps (s : State) :
    (unloadFilm s).now = s.now ∧ (unloadFilm s).choices = s.choices ∧ (unloadFilm s).pending = s.pending
    ∧ (unloadFilm s).ports = s.ports ∧ (unloadFilm s).docs = s.docs ∧ (unloadFilm s).store = s.store
    ∧ (unloadFilm s).comp.halts = s.comp.halts ∧ (unloadFilm s).comp.layouts = s.comp.layouts
    ∧ (unloadFilm s).comp.nextLayout = s.comp.nextLayout ∧ (unloadFilm s).comp.group = s.comp.group
    ∧ (unloadFilm s).comp.pauseLimit = s.comp.pauseLimit
    ∧ (unloadFilm s).comp.completionLimit = s.comp.completionLimit ∧ (unloadFilm s).comp.ageLimit = s.comp.ageLimit
    ∧ (unloadFilm s).comp.starveClose = s.comp.starveClose ∧ (unloadFilm s).comp.nextSerial = s.comp.nextSerial
    ∧ (unloadFilm s).comp.greatest = s.comp.greatest ∧ (unloadFilm s).comp.cell = s.comp.cell
    ∧ (unloadFilm s).dose = s.dose ∧ (unloadFilm s).writer.mode = s.writer.mode
    ∧ (unloadFilm s).writer.site = s.writer.site ∧ (unloadFilm s).beam.state = s.beam.state
    ∧ (unloadFilm s).beam.floorIndex = s.beam.floorIndex ∧ (unloadFilm s).beam.drift = s.beam.drift
    ∧ (unloadFilm s).film.lot = s.film.lot ∧ (unloadFilm s).film.factor = s.film.factor
    ∧ (unloadFilm s).index = s.index := by
  simp [unloadFilm]

@[simp] theorem loseStage_keeps (s : State) :
    (loseStage s).now = s.now ∧ (loseStage s).choices = s.choices ∧ (loseStage s).pending = s.pending
    ∧ (loseStage s).docs.queues = s.docs.queues ∧ (loseStage s).store.memory = s.store.memory
    ∧ (loseStage s).store.pages = s.store.pages ∧ (loseStage s).store.freeList = s.store.freeList
    ∧ (loseStage s).store.held = s.store.held ∧ (loseStage s).store.quota = s.store.quota
    ∧ (loseStage s).comp.sheet = s.comp.sheet ∧ (loseStage s).comp.layouts = s.comp.layouts
    ∧ (loseStage s).comp.nextLayout = s.comp.nextLayout ∧ (loseStage s).comp.group = s.comp.group
    ∧ (loseStage s).comp.pauseLimit = s.comp.pauseLimit
    ∧ (loseStage s).comp.completionLimit = s.comp.completionLimit ∧ (loseStage s).comp.ageLimit = s.comp.ageLimit
    ∧ (loseStage s).comp.starveClose = s.comp.starveClose ∧ (loseStage s).comp.nextSerial = s.comp.nextSerial
    ∧ (loseStage s).comp.greatest = s.comp.greatest ∧ (loseStage s).comp.cell = s.comp.cell
    ∧ (loseStage s).dose = s.dose ∧ (loseStage s).beam.state = s.beam.state
    ∧ (loseStage s).beam.floorIndex = s.beam.floorIndex ∧ (loseStage s).beam.drift = s.beam.drift
    ∧ (loseStage s).film.film = s.film.film ∧ (loseStage s).film.count = s.film.count
    ∧ (loseStage s).film.lot = s.film.lot ∧ (loseStage s).film.factor = s.film.factor
    ∧ (loseStage s).film.gateDue = s.film.gateDue ∧ (loseStage s).index.ring = s.index.ring
    ∧ (loseStage s).index.template = s.index.template := by
  simp [loseStage]

@[simp] theorem loseStage_ports (s : State) (q : Port) :
    ((loseStage s).ports.get q).cls = (s.ports.get q).cls ∧ ((loseStage s).ports.get q).up = (s.ports.get q).up := by
  simp [loseStage]

@[simp] theorem transportFault_keeps (s : State) :
    (transportFault s).now = s.now ∧ (transportFault s).choices = s.choices ∧ (transportFault s).pending = s.pending
    ∧ (transportFault s).docs.queues = s.docs.queues ∧ (transportFault s).store.memory = s.store.memory
    ∧ (transportFault s).store.pages = s.store.pages ∧ (transportFault s).store.freeList = s.store.freeList
    ∧ (transportFault s).store.held = s.store.held ∧ (transportFault s).store.quota = s.store.quota
    ∧ (transportFault s).comp.sheet = s.comp.sheet ∧ (transportFault s).comp.layouts = s.comp.layouts
    ∧ (transportFault s).comp.nextLayout = s.comp.nextLayout ∧ (transportFault s).comp.group = s.comp.group
    ∧ (transportFault s).comp.pauseLimit = s.comp.pauseLimit
    ∧ (transportFault s).comp.completionLimit = s.comp.completionLimit
    ∧ (transportFault s).comp.ageLimit = s.comp.ageLimit ∧ (transportFault s).comp.starveClose = s.comp.starveClose
    ∧ (transportFault s).comp.nextSerial = s.comp.nextSerial ∧ (transportFault s).comp.greatest = s.comp.greatest
    ∧ (transportFault s).comp.cell = s.comp.cell ∧ (transportFault s).dose = s.dose
    ∧ (transportFault s).beam.state = s.beam.state ∧ (transportFault s).beam.floorIndex = s.beam.floorIndex
    ∧ (transportFault s).beam.drift = s.beam.drift ∧ (transportFault s).film.film = s.film.film
    ∧ (transportFault s).film.count = s.film.count ∧ (transportFault s).film.lot = s.film.lot
    ∧ (transportFault s).film.factor = s.film.factor ∧ (transportFault s).film.gateDue = s.film.gateDue
    ∧ (transportFault s).index.ring = s.index.ring ∧ (transportFault s).index.template = s.index.template := by
  simp [transportFault]

@[simp] theorem transportFault_ports (s : State) (q : Port) :
    ((transportFault s).ports.get q).cls = (s.ports.get q).cls
    ∧ ((transportFault s).ports.get q).up = (s.ports.get q).up := by
  simp [transportFault]

@[simp] theorem holdOp_keeps (op : Operation) (s : State) :
    (holdOp op s).now = s.now ∧ (holdOp op s).choices = s.choices ∧ (holdOp op s).pending = s.pending
    ∧ (holdOp op s).ports = s.ports ∧ (holdOp op s).docs = s.docs ∧ (holdOp op s).store = s.store
    ∧ (holdOp op s).comp = s.comp ∧ (holdOp op s).dose = s.dose ∧ (holdOp op s).writer = s.writer
    ∧ (holdOp op s).beam = s.beam ∧ (holdOp op s).film.film = s.film.film ∧ (holdOp op s).film.count = s.film.count
    ∧ (holdOp op s).film.lot = s.film.lot ∧ (holdOp op s).film.factor = s.film.factor
    ∧ (holdOp op s).film.gateDue = s.film.gateDue ∧ (holdOp op s).index = s.index := by
  simp only [holdOp]
  (repeat' split) <;> simp

@[simp] theorem failOp_keeps (op : Operation) (s : State) :
    (failOp op s).now = s.now ∧ (failOp op s).choices = s.choices ∧ (failOp op s).pending = s.pending
    ∧ (failOp op s).docs.queues = s.docs.queues ∧ (failOp op s).store.memory = s.store.memory
    ∧ (failOp op s).store.pages = s.store.pages ∧ (failOp op s).store.freeList = s.store.freeList
    ∧ (failOp op s).store.held = s.store.held ∧ (failOp op s).store.quota = s.store.quota
    ∧ (failOp op s).comp.sheet = s.comp.sheet ∧ (failOp op s).comp.layouts = s.comp.layouts
    ∧ (failOp op s).comp.nextLayout = s.comp.nextLayout ∧ (failOp op s).comp.group = s.comp.group
    ∧ (failOp op s).comp.pauseLimit = s.comp.pauseLimit
    ∧ (failOp op s).comp.completionLimit = s.comp.completionLimit ∧ (failOp op s).comp.ageLimit = s.comp.ageLimit
    ∧ (failOp op s).comp.starveClose = s.comp.starveClose ∧ (failOp op s).comp.nextSerial = s.comp.nextSerial
    ∧ (failOp op s).comp.greatest = s.comp.greatest ∧ (failOp op s).comp.cell = s.comp.cell
    ∧ (failOp op s).dose = s.dose ∧ (failOp op s).beam.state = s.beam.state
    ∧ (failOp op s).beam.floorIndex = s.beam.floorIndex ∧ (failOp op s).beam.drift = s.beam.drift
    ∧ (failOp op s).film.film = s.film.film ∧ (failOp op s).film.count = s.film.count
    ∧ (failOp op s).film.lot = s.film.lot ∧ (failOp op s).film.factor = s.film.factor
    ∧ (failOp op s).film.gateDue = s.film.gateDue ∧ (failOp op s).index.ring = s.index.ring
    ∧ (failOp op s).index.template = s.index.template := by
  simp only [failOp]
  (repeat' split) <;> simp

@[simp] theorem failOp_ports (op : Operation) (s : State) (q : Port) :
    ((failOp op s).ports.get q).cls = (s.ports.get q).cls ∧ ((failOp op s).ports.get q).up = (s.ports.get q).up := by
  simp only [failOp]
  (repeat' split) <;> simp

@[simp] theorem stopStage_keeps (s : State) :
    (stopStage s).now = s.now ∧ (stopStage s).choices = s.choices ∧ (stopStage s).pending = s.pending
    ∧ (stopStage s).ports = s.ports ∧ (stopStage s).docs = s.docs ∧ (stopStage s).store = s.store
    ∧ (stopStage s).comp = s.comp ∧ (stopStage s).dose = s.dose ∧ (stopStage s).writer = s.writer
    ∧ (stopStage s).beam = s.beam ∧ (stopStage s).film.film = s.film.film ∧ (stopStage s).film.count = s.film.count
    ∧ (stopStage s).film.lot = s.film.lot ∧ (stopStage s).film.factor = s.film.factor
    ∧ (stopStage s).film.gateDue = s.film.gateDue ∧ (stopStage s).index = s.index := by
  simp only [stopStage]
  (repeat' split) <;> simp

@[simp] theorem beginSample_keeps (s : State) :
    (beginSample s).now = s.now ∧ (beginSample s).choices = s.choices ∧ (beginSample s).pending = s.pending
    ∧ (beginSample s).ports = s.ports ∧ (beginSample s).docs = s.docs ∧ (beginSample s).store = s.store
    ∧ (beginSample s).comp = s.comp ∧ (beginSample s).dose = s.dose ∧ (beginSample s).beam.state = s.beam.state
    ∧ (beginSample s).beam.floorIndex = s.beam.floorIndex ∧ (beginSample s).beam.drift = s.beam.drift
    ∧ (beginSample s).film = s.film ∧ (beginSample s).index = s.index := by
  simp only [beginSample]
  (repeat' split) <;> simp

@[simp] theorem nextLine_keeps (s : State) :
    (nextLine s).now = s.now ∧ (nextLine s).choices = s.choices ∧ (nextLine s).pending = s.pending
    ∧ (nextLine s).docs = s.docs ∧ (nextLine s).store.memory = s.store.memory
    ∧ (nextLine s).store.pages = s.store.pages ∧ (nextLine s).store.freeList = s.store.freeList
    ∧ (nextLine s).store.held = s.store.held ∧ (nextLine s).store.quota = s.store.quota ∧ (nextLine s).comp = s.comp
    ∧ (nextLine s).dose = s.dose ∧ (nextLine s).beam.state = s.beam.state
    ∧ (nextLine s).beam.floorIndex = s.beam.floorIndex ∧ (nextLine s).beam.drift = s.beam.drift
    ∧ (nextLine s).film = s.film ∧ (nextLine s).index.ring = s.index.ring
    ∧ (nextLine s).index.template = s.index.template := by
  simp [nextLine]

@[simp] theorem nextLine_ports (s : State) (q : Port) :
    ((nextLine s).ports.get q).cls = (s.ports.get q).cls ∧ ((nextLine s).ports.get q).up = (s.ports.get q).up := by
  simp [nextLine]

@[simp] theorem define_keeps (p : Port) (tag width height depth dpi rotation : Nat) (s : State) :
    (define p tag width height depth dpi rotation s).now = s.now
    ∧ (define p tag width height depth dpi rotation s).choices = s.choices
    ∧ (define p tag width height depth dpi rotation s).pending = s.pending
    ∧ (define p tag width height depth dpi rotation s).docs = s.docs
    ∧ (define p tag width height depth dpi rotation s).store.memory = s.store.memory
    ∧ (define p tag width height depth dpi rotation s).store.quota = s.store.quota
    ∧ (define p tag width height depth dpi rotation s).comp = s.comp
    ∧ (define p tag width height depth dpi rotation s).dose = s.dose
    ∧ (define p tag width height depth dpi rotation s).writer = s.writer
    ∧ (define p tag width height depth dpi rotation s).beam = s.beam
    ∧ (define p tag width height depth dpi rotation s).film = s.film
    ∧ (define p tag width height depth dpi rotation s).index = s.index := by
  simp only [define]
  (repeat' split) <;> simp

@[simp] theorem define_ports (p : Port) (tag width height depth dpi rotation : Nat) (s : State) (q : Port) :
    ((define p tag width height depth dpi rotation s).ports.get q).cls = (s.ports.get q).cls
    ∧ ((define p tag width height depth dpi rotation s).ports.get q).up = (s.ports.get q).up := by
  simp only [define]
  (repeat' split) <;> simp

@[simp] theorem acceptRows_keeps (p : Port) (tag page first count : Nat) (data : List Byte) (s : State) :
    (acceptRows p tag page first count data s).now = s.now
    ∧ (acceptRows p tag page first count data s).choices = s.choices
    ∧ (acceptRows p tag page first count data s).pending = s.pending
    ∧ (acceptRows p tag page first count data s).docs = s.docs
    ∧ (acceptRows p tag page first count data s).store.memory = s.store.memory
    ∧ (acceptRows p tag page first count data s).store.pages = s.store.pages
    ∧ (acceptRows p tag page first count data s).store.freeList = s.store.freeList
    ∧ (acceptRows p tag page first count data s).store.held = s.store.held
    ∧ (acceptRows p tag page first count data s).store.quota = s.store.quota
    ∧ (acceptRows p tag page first count data s).comp = s.comp
    ∧ (acceptRows p tag page first count data s).dose = s.dose
    ∧ (acceptRows p tag page first count data s).writer = s.writer
    ∧ (acceptRows p tag page first count data s).beam = s.beam
    ∧ (acceptRows p tag page first count data s).film = s.film
    ∧ (acceptRows p tag page first count data s).index = s.index := by
  simp only [acceptRows]
  (repeat' split) <;> simp

@[simp] theorem acceptRows_ports (p : Port) (tag page first count : Nat) (data : List Byte) (s : State) (q : Port) :
    ((acceptRows p tag page first count data s).ports.get q).cls = (s.ports.get q).cls
    ∧ ((acceptRows p tag page first count data s).ports.get q).up = (s.ports.get q).up := by
  simp only [acceptRows]
  (repeat' split) <;> simp

@[simp] theorem reportRows_keeps (page : Nat) (complete : Bool) (s : State) :
    (reportRows page complete s).now = s.now ∧ (reportRows page complete s).choices = s.choices
    ∧ (reportRows page complete s).pending = s.pending ∧ (reportRows page complete s).ports = s.ports
    ∧ (reportRows page complete s).docs = s.docs ∧ (reportRows page complete s).store = s.store
    ∧ (reportRows page complete s).comp.sheet = s.comp.sheet
    ∧ (reportRows page complete s).comp.halts = s.comp.halts
    ∧ (reportRows page complete s).comp.layouts = s.comp.layouts
    ∧ (reportRows page complete s).comp.nextLayout = s.comp.nextLayout
    ∧ (reportRows page complete s).comp.group = s.comp.group
    ∧ (reportRows page complete s).comp.pauseLimit = s.comp.pauseLimit
    ∧ (reportRows page complete s).comp.completionLimit = s.comp.completionLimit
    ∧ (reportRows page complete s).comp.ageLimit = s.comp.ageLimit
    ∧ (reportRows page complete s).comp.starveClose = s.comp.starveClose
    ∧ (reportRows page complete s).comp.nextSerial = s.comp.nextSerial
    ∧ (reportRows page complete s).comp.greatest = s.comp.greatest
    ∧ (reportRows page complete s).comp.cell = s.comp.cell ∧ (reportRows page complete s).dose = s.dose
    ∧ (reportRows page complete s).writer = s.writer ∧ (reportRows page complete s).beam = s.beam
    ∧ (reportRows page complete s).film = s.film ∧ (reportRows page complete s).index.ring = s.index.ring
    ∧ (reportRows page complete s).index.template = s.index.template := by
  simp only [reportRows]
  (repeat' split) <;> simp

@[simp] theorem replyRows_ports (w : PendingWrite) (pg : Page) (s : State) (q : Port) :
    ((replyRows w pg s).ports.get q).cls = (s.ports.get q).cls
    ∧ ((replyRows w pg s).ports.get q).up = (s.ports.get q).up := by
  simp [replyRows]

@[simp] theorem drop_keeps (p : Port) (tag page : Nat) (s : State) :
    (drop p tag page s).now = s.now ∧ (drop p tag page s).pending = s.pending ∧ (drop p tag page s).docs = s.docs
    ∧ (drop p tag page s).store.quota = s.store.quota ∧ (drop p tag page s).comp = s.comp
    ∧ (drop p tag page s).dose = s.dose ∧ (drop p tag page s).writer = s.writer ∧ (drop p tag page s).beam = s.beam
    ∧ (drop p tag page s).film = s.film ∧ (drop p tag page s).index = s.index := by
  simp only [drop]
  (repeat' split) <;> simp

@[simp] theorem drop_ports (p : Port) (tag page : Nat) (s : State) (q : Port) :
    ((drop p tag page s).ports.get q).cls = (s.ports.get q).cls
    ∧ ((drop p tag page s).ports.get q).up = (s.ports.get q).up := by
  simp only [drop]
  (repeat' split) <;> simp

@[simp] theorem releaseDocs_keeps (l : List Nat) (s : State) :
    (l.foldl (fun s h => releaseDoc h s) s).now = s.now
    ∧ (l.foldl (fun s h => releaseDoc h s) s).pending = s.pending
    ∧ (l.foldl (fun s h => releaseDoc h s) s).docs.queues = s.docs.queues
    ∧ (l.foldl (fun s h => releaseDoc h s) s).store.quota = s.store.quota
    ∧ (l.foldl (fun s h => releaseDoc h s) s).comp = s.comp ∧ (l.foldl (fun s h => releaseDoc h s) s).dose = s.dose
    ∧ (l.foldl (fun s h => releaseDoc h s) s).writer = s.writer
    ∧ (l.foldl (fun s h => releaseDoc h s) s).beam = s.beam ∧ (l.foldl (fun s h => releaseDoc h s) s).film = s.film
    ∧ (l.foldl (fun s h => releaseDoc h s) s).index = s.index := by
  induction l generalizing s with
  | nil => simp
  | cons a l ih =>
    simp only [List.foldl_cons, ih]
    simp

@[simp] theorem releaseDocs_ports (l : List Nat) (s : State) (q : Port) :
    ((l.foldl (fun s h => releaseDoc h s) s).ports.get q).cls = (s.ports.get q).cls
    ∧ ((l.foldl (fun s h => releaseDoc h s) s).ports.get q).up = (s.ports.get q).up := by
  induction l generalizing s with
  | nil => simp
  | cons a l ih =>
    simp only [List.foldl_cons, ih]
    simp

@[simp] theorem dropUnplaced_keeps (p : Port) (s : State) :
    (dropUnplaced p s).now = s.now ∧ (dropUnplaced p s).pending = s.pending
    ∧ (dropUnplaced p s).store.quota = s.store.quota ∧ (dropUnplaced p s).comp.sheet = s.comp.sheet
    ∧ (dropUnplaced p s).comp.halts = s.comp.halts ∧ (dropUnplaced p s).comp.layouts = s.comp.layouts
    ∧ (dropUnplaced p s).comp.nextLayout = s.comp.nextLayout ∧ (dropUnplaced p s).comp.group = s.comp.group
    ∧ (dropUnplaced p s).comp.pauseLimit = s.comp.pauseLimit
    ∧ (dropUnplaced p s).comp.completionLimit = s.comp.completionLimit
    ∧ (dropUnplaced p s).comp.ageLimit = s.comp.ageLimit ∧ (dropUnplaced p s).comp.starveClose = s.comp.starveClose
    ∧ (dropUnplaced p s).comp.nextSerial = s.comp.nextSerial ∧ (dropUnplaced p s).comp.greatest = s.comp.greatest
    ∧ (dropUnplaced p s).comp.cell = s.comp.cell ∧ (dropUnplaced p s).dose = s.dose
    ∧ (dropUnplaced p s).writer = s.writer ∧ (dropUnplaced p s).beam = s.beam ∧ (dropUnplaced p s).film = s.film
    ∧ (dropUnplaced p s).index = s.index := by
  simp only [dropUnplaced]
  (repeat' split) <;> simp

@[simp] theorem dropUnplaced_ports (p : Port) (s : State) (q : Port) :
    ((dropUnplaced p s).ports.get q).cls = (s.ports.get q).cls
    ∧ ((dropUnplaced p s).ports.get q).up = (s.ports.get q).up := by
  simp only [dropUnplaced]
  (repeat' split) <;> simp

@[simp] theorem dropDetached_keeps (p : Port) (s : State) :
    (dropDetached p s).now = s.now ∧ (dropDetached p s).pending = s.pending ∧ (dropDetached p s).docs = s.docs
    ∧ (dropDetached p s).store.quota = s.store.quota ∧ (dropDetached p s).comp = s.comp
    ∧ (dropDetached p s).dose = s.dose ∧ (dropDetached p s).writer = s.writer ∧ (dropDetached p s).beam = s.beam
    ∧ (dropDetached p s).film = s.film ∧ (dropDetached p s).index = s.index := by
  simp [dropDetached]

@[simp] theorem dropDetached_ports (p : Port) (s : State) (q : Port) :
    ((dropDetached p s).ports.get q).cls = (s.ports.get q).cls
    ∧ ((dropDetached p s).ports.get q).up = (s.ports.get q).up := by
  simp [dropDetached]

@[simp] theorem portResetCore_keeps (p : Port) (s : State) :
    (portResetCore p s).now = s.now ∧ (portResetCore p s).pending = s.pending
    ∧ (portResetCore p s).store.quota = s.store.quota ∧ (portResetCore p s).comp.sheet = s.comp.sheet
    ∧ (portResetCore p s).comp.halts = s.comp.halts ∧ (portResetCore p s).comp.layouts = s.comp.layouts
    ∧ (portResetCore p s).comp.nextLayout = s.comp.nextLayout ∧ (portResetCore p s).comp.group = s.comp.group
    ∧ (portResetCore p s).comp.pauseLimit = s.comp.pauseLimit
    ∧ (portResetCore p s).comp.completionLimit = s.comp.completionLimit
    ∧ (portResetCore p s).comp.ageLimit = s.comp.ageLimit
    ∧ (portResetCore p s).comp.starveClose = s.comp.starveClose
    ∧ (portResetCore p s).comp.nextSerial = s.comp.nextSerial ∧ (portResetCore p s).comp.greatest = s.comp.greatest
    ∧ (portResetCore p s).comp.cell = s.comp.cell ∧ (portResetCore p s).dose = s.dose
    ∧ (portResetCore p s).writer = s.writer ∧ (portResetCore p s).beam.state = s.beam.state
    ∧ (portResetCore p s).beam.floorIndex = s.beam.floorIndex ∧ (portResetCore p s).beam.drift = s.beam.drift
    ∧ (portResetCore p s).film = s.film ∧ (portResetCore p s).index = s.index := by
  simp [portResetCore]

@[simp] theorem resetPort_keeps (p : Port) (s : State) :
    (resetPort p s).now = s.now ∧ (resetPort p s).pending = s.pending ∧ (resetPort p s).store.quota = s.store.quota
    ∧ (resetPort p s).comp.layouts = s.comp.layouts ∧ (resetPort p s).comp.nextLayout = s.comp.nextLayout
    ∧ (resetPort p s).comp.group = s.comp.group ∧ (resetPort p s).comp.pauseLimit = s.comp.pauseLimit
    ∧ (resetPort p s).comp.completionLimit = s.comp.completionLimit
    ∧ (resetPort p s).comp.ageLimit = s.comp.ageLimit ∧ (resetPort p s).comp.starveClose = s.comp.starveClose
    ∧ (resetPort p s).comp.cell = s.comp.cell ∧ (resetPort p s).beam.state = s.beam.state
    ∧ (resetPort p s).beam.floorIndex = s.beam.floorIndex ∧ (resetPort p s).beam.drift = s.beam.drift
    ∧ (resetPort p s).dose.gain = s.dose.gain ∧ (resetPort p s).dose.dotTime = s.dose.dotTime
    ∧ (resetPort p s).dose.response = s.dose.response ∧ (resetPort p s).dose.frame = s.dose.frame
    ∧ (resetPort p s).writer.site = s.writer.site ∧ (resetPort p s).film.film = s.film.film
    ∧ (resetPort p s).film.lot = s.film.lot ∧ (resetPort p s).film.factor = s.film.factor
    ∧ (resetPort p s).index.ring = s.index.ring ∧ (resetPort p s).index.template = s.index.template := by
  simp only [resetPort]
  (repeat' split) <;> simp

@[simp] theorem attachPages_keeps (doc : Option Nat) (l : List Nat) (s : State) :
    (l.foldl (fun s pg => setAttached doc pg s) s).now = s.now
    ∧ (l.foldl (fun s pg => setAttached doc pg s) s).choices = s.choices
    ∧ (l.foldl (fun s pg => setAttached doc pg s) s).pending = s.pending
    ∧ (l.foldl (fun s pg => setAttached doc pg s) s).ports = s.ports
    ∧ (l.foldl (fun s pg => setAttached doc pg s) s).docs = s.docs
    ∧ (l.foldl (fun s pg => setAttached doc pg s) s).store.memory = s.store.memory
    ∧ (l.foldl (fun s pg => setAttached doc pg s) s).store.freeList = s.store.freeList
    ∧ (l.foldl (fun s pg => setAttached doc pg s) s).store.held = s.store.held
    ∧ (l.foldl (fun s pg => setAttached doc pg s) s).store.quota = s.store.quota
    ∧ (l.foldl (fun s pg => setAttached doc pg s) s).comp = s.comp
    ∧ (l.foldl (fun s pg => setAttached doc pg s) s).dose = s.dose
    ∧ (l.foldl (fun s pg => setAttached doc pg s) s).writer = s.writer
    ∧ (l.foldl (fun s pg => setAttached doc pg s) s).beam = s.beam
    ∧ (l.foldl (fun s pg => setAttached doc pg s) s).film = s.film
    ∧ (l.foldl (fun s pg => setAttached doc pg s) s).index = s.index := by
  induction l generalizing s with
  | nil => simp
  | cons a l ih =>
    simp only [List.foldl_cons, ih]
    simp

@[simp] theorem createDoc_keeps (p : Port) (h : Nat) (d : Doc) (s : State) :
    (createDoc p h d s).now = s.now ∧ (createDoc p h d s).choices = s.choices
    ∧ (createDoc p h d s).pending = s.pending ∧ (createDoc p h d s).ports = s.ports
    ∧ (createDoc p h d s).store.memory = s.store.memory ∧ (createDoc p h d s).store.freeList = s.store.freeList
    ∧ (createDoc p h d s).store.held = s.store.held ∧ (createDoc p h d s).store.quota = s.store.quota
    ∧ (createDoc p h d s).comp = s.comp ∧ (createDoc p h d s).dose = s.dose ∧ (createDoc p h d s).writer = s.writer
    ∧ (createDoc p h d s).beam = s.beam ∧ (createDoc p h d s).film = s.film ∧ (createDoc p h d s).index = s.index :=
    by
  simp [createDoc]

@[simp] theorem submitted_keeps (s : State) :
    (submitted s).now = s.now ∧ (submitted s).choices = s.choices ∧ (submitted s).pending = s.pending
    ∧ (submitted s).docs = s.docs ∧ (submitted s).store = s.store ∧ (submitted s).comp.layouts = s.comp.layouts
    ∧ (submitted s).comp.nextLayout = s.comp.nextLayout ∧ (submitted s).comp.group = s.comp.group
    ∧ (submitted s).comp.pauseLimit = s.comp.pauseLimit
    ∧ (submitted s).comp.completionLimit = s.comp.completionLimit ∧ (submitted s).comp.ageLimit = s.comp.ageLimit
    ∧ (submitted s).comp.starveClose = s.comp.starveClose ∧ (submitted s).comp.cell = s.comp.cell
    ∧ (submitted s).dose.gain = s.dose.gain ∧ (submitted s).dose.dotTime = s.dose.dotTime
    ∧ (submitted s).dose.response = s.dose.response ∧ (submitted s).dose.frame = s.dose.frame
    ∧ (submitted s).writer.site = s.writer.site ∧ (submitted s).beam.state = s.beam.state
    ∧ (submitted s).beam.floorIndex = s.beam.floorIndex ∧ (submitted s).beam.drift = s.beam.drift
    ∧ (submitted s).film.film = s.film.film ∧ (submitted s).film.lot = s.film.lot
    ∧ (submitted s).film.factor = s.film.factor ∧ (submitted s).index.ring = s.index.ring
    ∧ (submitted s).index.template = s.index.template := by
  simp [submitted]

@[simp] theorem submitted_ports (s : State) (q : Port) :
    ((submitted s).ports.get q).cls = (s.ports.get q).cls ∧ ((submitted s).ports.get q).up = (s.ports.get q).up := by
  simp [submitted]

@[simp] theorem submit_keeps (p : Port) (tag : Nat) (key : Text) (cls : Nat) (stream : Bool) (count : Nat) (pages :
    List Nat) (s : State) :
    (submit p tag key cls stream count pages s).now = s.now
    ∧ (submit p tag key cls stream count pages s).choices = s.choices
    ∧ (submit p tag key cls stream count pages s).pending = s.pending
    ∧ (submit p tag key cls stream count pages s).store.memory = s.store.memory
    ∧ (submit p tag key cls stream count pages s).store.freeList = s.store.freeList
    ∧ (submit p tag key cls stream count pages s).store.held = s.store.held
    ∧ (submit p tag key cls stream count pages s).store.quota = s.store.quota
    ∧ (submit p tag key cls stream count pages s).comp.layouts = s.comp.layouts
    ∧ (submit p tag key cls stream count pages s).comp.nextLayout = s.comp.nextLayout
    ∧ (submit p tag key cls stream count pages s).comp.group = s.comp.group
    ∧ (submit p tag key cls stream count pages s).comp.pauseLimit = s.comp.pauseLimit
    ∧ (submit p tag key cls stream count pages s).comp.completionLimit = s.comp.completionLimit
    ∧ (submit p tag key cls stream count pages s).comp.ageLimit = s.comp.ageLimit
    ∧ (submit p tag key cls stream count pages s).comp.starveClose = s.comp.starveClose
    ∧ (submit p tag key cls stream count pages s).comp.cell = s.comp.cell
    ∧ (submit p tag key cls stream count pages s).dose.gain = s.dose.gain
    ∧ (submit p tag key cls stream count pages s).dose.dotTime = s.dose.dotTime
    ∧ (submit p tag key cls stream count pages s).dose.response = s.dose.response
    ∧ (submit p tag key cls stream count pages s).dose.frame = s.dose.frame
    ∧ (submit p tag key cls stream count pages s).writer.site = s.writer.site
    ∧ (submit p tag key cls stream count pages s).beam.state = s.beam.state
    ∧ (submit p tag key cls stream count pages s).beam.floorIndex = s.beam.floorIndex
    ∧ (submit p tag key cls stream count pages s).beam.drift = s.beam.drift
    ∧ (submit p tag key cls stream count pages s).film.film = s.film.film
    ∧ (submit p tag key cls stream count pages s).film.lot = s.film.lot
    ∧ (submit p tag key cls stream count pages s).film.factor = s.film.factor
    ∧ (submit p tag key cls stream count pages s).index.ring = s.index.ring
    ∧ (submit p tag key cls stream count pages s).index.template = s.index.template := by
  simp only [submit]
  (repeat' split) <;> simp

@[simp] theorem submit_ports (p : Port) (tag : Nat) (key : Text) (cls : Nat) (stream : Bool) (count : Nat) (pages :
    List Nat) (s : State) (q : Port) :
    ((submit p tag key cls stream count pages s).ports.get q).cls = (s.ports.get q).cls
    ∧ ((submit p tag key cls stream count pages s).ports.get q).up = (s.ports.get q).up := by
  simp only [submit]
  (repeat' split) <;> simp

@[simp] theorem joinMark_keeps (p : Port) (s : State) :
    (joinMark p s).now = s.now ∧ (joinMark p s).choices = s.choices ∧ (joinMark p s).pending = s.pending
    ∧ (joinMark p s).docs.table = s.docs.table ∧ (joinMark p s).store = s.store
    ∧ (joinMark p s).comp.layouts = s.comp.layouts ∧ (joinMark p s).comp.nextLayout = s.comp.nextLayout
    ∧ (joinMark p s).comp.group = s.comp.group ∧ (joinMark p s).comp.pauseLimit = s.comp.pauseLimit
    ∧ (joinMark p s).comp.completionLimit = s.comp.completionLimit ∧ (joinMark p s).comp.ageLimit = s.comp.ageLimit
    ∧ (joinMark p s).comp.starveClose = s.comp.starveClose ∧ (joinMark p s).comp.cell = s.comp.cell
    ∧ (joinMark p s).dose.gain = s.dose.gain ∧ (joinMark p s).dose.dotTime = s.dose.dotTime
    ∧ (joinMark p s).dose.response = s.dose.response ∧ (joinMark p s).dose.frame = s.dose.frame
    ∧ (joinMark p s).writer.site = s.writer.site ∧ (joinMark p s).beam.state = s.beam.state
    ∧ (joinMark p s).beam.floorIndex = s.beam.floorIndex ∧ (joinMark p s).beam.drift = s.beam.drift
    ∧ (joinMark p s).film.film = s.film.film ∧ (joinMark p s).film.lot = s.film.lot
    ∧ (joinMark p s).film.factor = s.film.factor ∧ (joinMark p s).index.ring = s.index.ring
    ∧ (joinMark p s).index.template = s.index.template := by
  simp only [joinMark]
  (repeat' split) <;> simp

@[simp] theorem joinMark_ports (p : Port) (s : State) (q : Port) :
    ((joinMark p s).ports.get q).cls = (s.ports.get q).cls ∧ ((joinMark p s).ports.get q).up = (s.ports.get q).up :=
    by
  simp only [joinMark]
  (repeat' split) <;> simp

@[simp] theorem unplaceDoc_keeps (h : Nat) (s : State) :
    (unplaceDoc h s).now = s.now ∧ (unplaceDoc h s).choices = s.choices ∧ (unplaceDoc h s).pending = s.pending
    ∧ (unplaceDoc h s).ports = s.ports ∧ (unplaceDoc h s).docs.queues = s.docs.queues
    ∧ (unplaceDoc h s).store = s.store ∧ (unplaceDoc h s).comp = s.comp ∧ (unplaceDoc h s).dose = s.dose
    ∧ (unplaceDoc h s).writer = s.writer ∧ (unplaceDoc h s).beam = s.beam ∧ (unplaceDoc h s).film = s.film
    ∧ (unplaceDoc h s).index.ring = s.index.ring ∧ (unplaceDoc h s).index.template = s.index.template := by
  simp only [unplaceDoc]
  (repeat' split) <;> simp

@[simp] theorem cancelDoc_keeps (h : Nat) (d : Doc) (s : State) :
    (cancelDoc h d s).now = s.now ∧ (cancelDoc h d s).pending = s.pending
    ∧ (cancelDoc h d s).store.quota = s.store.quota ∧ (cancelDoc h d s).comp.sheet = s.comp.sheet
    ∧ (cancelDoc h d s).comp.halts = s.comp.halts ∧ (cancelDoc h d s).comp.layouts = s.comp.layouts
    ∧ (cancelDoc h d s).comp.nextLayout = s.comp.nextLayout ∧ (cancelDoc h d s).comp.group = s.comp.group
    ∧ (cancelDoc h d s).comp.pauseLimit = s.comp.pauseLimit
    ∧ (cancelDoc h d s).comp.completionLimit = s.comp.completionLimit
    ∧ (cancelDoc h d s).comp.ageLimit = s.comp.ageLimit ∧ (cancelDoc h d s).comp.starveClose = s.comp.starveClose
    ∧ (cancelDoc h d s).comp.nextSerial = s.comp.nextSerial ∧ (cancelDoc h d s).comp.greatest = s.comp.greatest
    ∧ (cancelDoc h d s).comp.cell = s.comp.cell ∧ (cancelDoc h d s).dose = s.dose
    ∧ (cancelDoc h d s).writer = s.writer ∧ (cancelDoc h d s).beam = s.beam ∧ (cancelDoc h d s).film = s.film
    ∧ (cancelDoc h d s).index = s.index := by
  simp [cancelDoc]

@[simp] theorem cancelDoc_ports (h : Nat) (d : Doc) (s : State) (q : Port) :
    ((cancelDoc h d s).ports.get q).cls = (s.ports.get q).cls
    ∧ ((cancelDoc h d s).ports.get q).up = (s.ports.get q).up := by
  simp [cancelDoc]

@[simp] theorem cancelled_keeps (s : State) :
    (cancelled s).now = s.now ∧ (cancelled s).choices = s.choices ∧ (cancelled s).pending = s.pending
    ∧ (cancelled s).docs = s.docs ∧ (cancelled s).store = s.store ∧ (cancelled s).comp.layouts = s.comp.layouts
    ∧ (cancelled s).comp.nextLayout = s.comp.nextLayout ∧ (cancelled s).comp.group = s.comp.group
    ∧ (cancelled s).comp.pauseLimit = s.comp.pauseLimit
    ∧ (cancelled s).comp.completionLimit = s.comp.completionLimit ∧ (cancelled s).comp.ageLimit = s.comp.ageLimit
    ∧ (cancelled s).comp.starveClose = s.comp.starveClose ∧ (cancelled s).comp.cell = s.comp.cell
    ∧ (cancelled s).dose.gain = s.dose.gain ∧ (cancelled s).dose.dotTime = s.dose.dotTime
    ∧ (cancelled s).dose.response = s.dose.response ∧ (cancelled s).dose.frame = s.dose.frame
    ∧ (cancelled s).writer.site = s.writer.site ∧ (cancelled s).beam.state = s.beam.state
    ∧ (cancelled s).beam.floorIndex = s.beam.floorIndex ∧ (cancelled s).beam.drift = s.beam.drift
    ∧ (cancelled s).film.film = s.film.film ∧ (cancelled s).film.lot = s.film.lot
    ∧ (cancelled s).film.factor = s.film.factor ∧ (cancelled s).index.ring = s.index.ring
    ∧ (cancelled s).index.template = s.index.template := by
  simp [cancelled]

@[simp] theorem cancelled_ports (s : State) (q : Port) :
    ((cancelled s).ports.get q).cls = (s.ports.get q).cls ∧ ((cancelled s).ports.get q).up = (s.ports.get q).up := by
  simp [cancelled]

@[simp] theorem acceptCancel_keeps (p : Port) (tag h : Nat) (d : Doc) (s : State) :
    (acceptCancel p tag h d s).now = s.now ∧ (acceptCancel p tag h d s).pending = s.pending
    ∧ (acceptCancel p tag h d s).store.quota = s.store.quota
    ∧ (acceptCancel p tag h d s).comp.layouts = s.comp.layouts
    ∧ (acceptCancel p tag h d s).comp.nextLayout = s.comp.nextLayout
    ∧ (acceptCancel p tag h d s).comp.group = s.comp.group
    ∧ (acceptCancel p tag h d s).comp.pauseLimit = s.comp.pauseLimit
    ∧ (acceptCancel p tag h d s).comp.completionLimit = s.comp.completionLimit
    ∧ (acceptCancel p tag h d s).comp.ageLimit = s.comp.ageLimit
    ∧ (acceptCancel p tag h d s).comp.starveClose = s.comp.starveClose
    ∧ (acceptCancel p tag h d s).comp.cell = s.comp.cell ∧ (acceptCancel p tag h d s).dose.gain = s.dose.gain
    ∧ (acceptCancel p tag h d s).dose.dotTime = s.dose.dotTime
    ∧ (acceptCancel p tag h d s).dose.response = s.dose.response
    ∧ (acceptCancel p tag h d s).dose.frame = s.dose.frame ∧ (acceptCancel p tag h d s).writer.site = s.writer.site
    ∧ (acceptCancel p tag h d s).beam.state = s.beam.state
    ∧ (acceptCancel p tag h d s).beam.floorIndex = s.beam.floorIndex
    ∧ (acceptCancel p tag h d s).beam.drift = s.beam.drift ∧ (acceptCancel p tag h d s).film.film = s.film.film
    ∧ (acceptCancel p tag h d s).film.lot = s.film.lot ∧ (acceptCancel p tag h d s).film.factor = s.film.factor
    ∧ (acceptCancel p tag h d s).index.ring = s.index.ring
    ∧ (acceptCancel p tag h d s).index.template = s.index.template := by
  simp only [acceptCancel]
  (repeat' split) <;> simp

@[simp] theorem acceptCancel_ports (p : Port) (tag h : Nat) (d : Doc) (s : State) (q : Port) :
    ((acceptCancel p tag h d s).ports.get q).cls = (s.ports.get q).cls
    ∧ ((acceptCancel p tag h d s).ports.get q).up = (s.ports.get q).up := by
  simp only [acceptCancel]
  (repeat' split) <;> simp

@[simp] theorem cancel_keeps (p : Port) (tag h : Nat) (s : State) :
    (cancel p tag h s).now = s.now ∧ (cancel p tag h s).pending = s.pending
    ∧ (cancel p tag h s).store.quota = s.store.quota ∧ (cancel p tag h s).comp.layouts = s.comp.layouts
    ∧ (cancel p tag h s).comp.nextLayout = s.comp.nextLayout ∧ (cancel p tag h s).comp.group = s.comp.group
    ∧ (cancel p tag h s).comp.pauseLimit = s.comp.pauseLimit
    ∧ (cancel p tag h s).comp.completionLimit = s.comp.completionLimit
    ∧ (cancel p tag h s).comp.ageLimit = s.comp.ageLimit ∧ (cancel p tag h s).comp.starveClose = s.comp.starveClose
    ∧ (cancel p tag h s).comp.cell = s.comp.cell ∧ (cancel p tag h s).dose.gain = s.dose.gain
    ∧ (cancel p tag h s).dose.dotTime = s.dose.dotTime ∧ (cancel p tag h s).dose.response = s.dose.response
    ∧ (cancel p tag h s).dose.frame = s.dose.frame ∧ (cancel p tag h s).writer.site = s.writer.site
    ∧ (cancel p tag h s).beam.state = s.beam.state ∧ (cancel p tag h s).beam.floorIndex = s.beam.floorIndex
    ∧ (cancel p tag h s).beam.drift = s.beam.drift ∧ (cancel p tag h s).film.film = s.film.film
    ∧ (cancel p tag h s).film.lot = s.film.lot ∧ (cancel p tag h s).film.factor = s.film.factor
    ∧ (cancel p tag h s).index.ring = s.index.ring ∧ (cancel p tag h s).index.template = s.index.template := by
  simp only [cancel]
  (repeat' split) <;> simp

@[simp] theorem cancel_ports (p : Port) (tag h : Nat) (s : State) (q : Port) :
    ((cancel p tag h s).ports.get q).cls = (s.ports.get q).cls
    ∧ ((cancel p tag h s).ports.get q).up = (s.ports.get q).up := by
  simp only [cancel]
  (repeat' split) <;> simp

@[simp] theorem passOrHold_keeps (p : Port) (h : Nat) (s : State) :
    (passOrHold p h s).now = s.now ∧ (passOrHold p h s).choices = s.choices ∧ (passOrHold p h s).pending = s.pending
    ∧ (passOrHold p h s).ports = s.ports ∧ (passOrHold p h s).docs.table = s.docs.table
    ∧ (passOrHold p h s).store = s.store ∧ (passOrHold p h s).comp.sheet = s.comp.sheet
    ∧ (passOrHold p h s).comp.halts = s.comp.halts ∧ (passOrHold p h s).comp.layouts = s.comp.layouts
    ∧ (passOrHold p h s).comp.nextLayout = s.comp.nextLayout ∧ (passOrHold p h s).comp.group = s.comp.group
    ∧ (passOrHold p h s).comp.pauseLimit = s.comp.pauseLimit
    ∧ (passOrHold p h s).comp.completionLimit = s.comp.completionLimit
    ∧ (passOrHold p h s).comp.ageLimit = s.comp.ageLimit ∧ (passOrHold p h s).comp.starveClose = s.comp.starveClose
    ∧ (passOrHold p h s).comp.nextSerial = s.comp.nextSerial ∧ (passOrHold p h s).comp.greatest = s.comp.greatest
    ∧ (passOrHold p h s).comp.cell = s.comp.cell ∧ (passOrHold p h s).dose = s.dose
    ∧ (passOrHold p h s).writer = s.writer ∧ (passOrHold p h s).beam = s.beam ∧ (passOrHold p h s).film = s.film
    ∧ (passOrHold p h s).index = s.index := by
  simp only [passOrHold]
  (repeat' split) <;> simp

@[simp] theorem grantToDoc_keeps (p : Port) (h : Nat) (frames : List Nat) (s : State) :
    (grantToDoc p h frames s).now = s.now ∧ (grantToDoc p h frames s).choices = s.choices
    ∧ (grantToDoc p h frames s).pending = s.pending ∧ (grantToDoc p h frames s).store = s.store
    ∧ (grantToDoc p h frames s).comp.layouts = s.comp.layouts
    ∧ (grantToDoc p h frames s).comp.nextLayout = s.comp.nextLayout
    ∧ (grantToDoc p h frames s).comp.group = s.comp.group
    ∧ (grantToDoc p h frames s).comp.pauseLimit = s.comp.pauseLimit
    ∧ (grantToDoc p h frames s).comp.completionLimit = s.comp.completionLimit
    ∧ (grantToDoc p h frames s).comp.ageLimit = s.comp.ageLimit
    ∧ (grantToDoc p h frames s).comp.starveClose = s.comp.starveClose
    ∧ (grantToDoc p h frames s).comp.cell = s.comp.cell ∧ (grantToDoc p h frames s).dose.gain = s.dose.gain
    ∧ (grantToDoc p h frames s).dose.dotTime = s.dose.dotTime
    ∧ (grantToDoc p h frames s).dose.response = s.dose.response
    ∧ (grantToDoc p h frames s).dose.frame = s.dose.frame ∧ (grantToDoc p h frames s).writer.site = s.writer.site
    ∧ (grantToDoc p h frames s).beam.state = s.beam.state
    ∧ (grantToDoc p h frames s).beam.floorIndex = s.beam.floorIndex
    ∧ (grantToDoc p h frames s).beam.drift = s.beam.drift ∧ (grantToDoc p h frames s).film.film = s.film.film
    ∧ (grantToDoc p h frames s).film.lot = s.film.lot ∧ (grantToDoc p h frames s).film.factor = s.film.factor
    ∧ (grantToDoc p h frames s).index.ring = s.index.ring
    ∧ (grantToDoc p h frames s).index.template = s.index.template := by
  simp only [grantToDoc]
  (repeat' split) <;> simp

@[simp] theorem grantToDoc_ports (p : Port) (h : Nat) (frames : List Nat) (s : State) (q : Port) :
    ((grantToDoc p h frames s).ports.get q).cls = (s.ports.get q).cls
    ∧ ((grantToDoc p h frames s).ports.get q).up = (s.ports.get q).up := by
  simp only [grantToDoc]
  (repeat' split) <;> simp

@[simp] theorem grantToRetake_keeps (t : Retake) (frame : Nat) (s : State) :
    (grantToRetake t frame s).now = s.now ∧ (grantToRetake t frame s).choices = s.choices
    ∧ (grantToRetake t frame s).pending = s.pending ∧ (grantToRetake t frame s).docs.queues = s.docs.queues
    ∧ (grantToRetake t frame s).store = s.store ∧ (grantToRetake t frame s).comp.layouts = s.comp.layouts
    ∧ (grantToRetake t frame s).comp.nextLayout = s.comp.nextLayout
    ∧ (grantToRetake t frame s).comp.group = s.comp.group
    ∧ (grantToRetake t frame s).comp.pauseLimit = s.comp.pauseLimit
    ∧ (grantToRetake t frame s).comp.completionLimit = s.comp.completionLimit
    ∧ (grantToRetake t frame s).comp.ageLimit = s.comp.ageLimit
    ∧ (grantToRetake t frame s).comp.starveClose = s.comp.starveClose
    ∧ (grantToRetake t frame s).comp.cell = s.comp.cell ∧ (grantToRetake t frame s).dose.gain = s.dose.gain
    ∧ (grantToRetake t frame s).dose.dotTime = s.dose.dotTime
    ∧ (grantToRetake t frame s).dose.response = s.dose.response
    ∧ (grantToRetake t frame s).dose.frame = s.dose.frame ∧ (grantToRetake t frame s).writer.site = s.writer.site
    ∧ (grantToRetake t frame s).beam.state = s.beam.state
    ∧ (grantToRetake t frame s).beam.floorIndex = s.beam.floorIndex
    ∧ (grantToRetake t frame s).beam.drift = s.beam.drift ∧ (grantToRetake t frame s).film.film = s.film.film
    ∧ (grantToRetake t frame s).film.lot = s.film.lot ∧ (grantToRetake t frame s).film.factor = s.film.factor
    ∧ (grantToRetake t frame s).index.ring = s.index.ring
    ∧ (grantToRetake t frame s).index.template = s.index.template := by
  simp only [grantToRetake]
  (repeat' split) <;> simp

@[simp] theorem grantToRetake_ports (t : Retake) (frame : Nat) (s : State) (q : Port) :
    ((grantToRetake t frame s).ports.get q).cls = (s.ports.get q).cls
    ∧ ((grantToRetake t frame s).ports.get q).up = (s.ports.get q).up := by
  simp only [grantToRetake]
  (repeat' split) <;> simp

@[simp] theorem dropSheetRef_keeps (h : Nat) (s : State) :
    (dropSheetRef h s).now = s.now ∧ (dropSheetRef h s).choices = s.choices ∧ (dropSheetRef h s).pending = s.pending
    ∧ (dropSheetRef h s).ports = s.ports ∧ (dropSheetRef h s).docs.queues = s.docs.queues
    ∧ (dropSheetRef h s).store = s.store ∧ (dropSheetRef h s).comp = s.comp ∧ (dropSheetRef h s).dose = s.dose
    ∧ (dropSheetRef h s).writer = s.writer ∧ (dropSheetRef h s).beam = s.beam ∧ (dropSheetRef h s).film = s.film
    ∧ (dropSheetRef h s).index = s.index := by
  simp only [dropSheetRef]
  (repeat' split) <;> simp

@[simp] theorem holdsAfter_keeps (freed : Nat) (s : State) :
    (holdsAfter freed s).now = s.now ∧ (holdsAfter freed s).choices = s.choices
    ∧ (holdsAfter freed s).pending = s.pending ∧ (holdsAfter freed s).ports = s.ports
    ∧ (holdsAfter freed s).docs = s.docs ∧ (holdsAfter freed s).store = s.store
    ∧ (holdsAfter freed s).comp.sheet = s.comp.sheet ∧ (holdsAfter freed s).comp.halts = s.comp.halts
    ∧ (holdsAfter freed s).comp.layouts = s.comp.layouts ∧ (holdsAfter freed s).comp.nextLayout = s.comp.nextLayout
    ∧ (holdsAfter freed s).comp.group = s.comp.group ∧ (holdsAfter freed s).comp.pauseLimit = s.comp.pauseLimit
    ∧ (holdsAfter freed s).comp.completionLimit = s.comp.completionLimit
    ∧ (holdsAfter freed s).comp.ageLimit = s.comp.ageLimit
    ∧ (holdsAfter freed s).comp.starveClose = s.comp.starveClose
    ∧ (holdsAfter freed s).comp.nextSerial = s.comp.nextSerial
    ∧ (holdsAfter freed s).comp.greatest = s.comp.greatest ∧ (holdsAfter freed s).comp.cell = s.comp.cell
    ∧ (holdsAfter freed s).dose = s.dose ∧ (holdsAfter freed s).writer = s.writer
    ∧ (holdsAfter freed s).beam = s.beam ∧ (holdsAfter freed s).film = s.film ∧ (holdsAfter freed s).index = s.index
    := by
  simp only [holdsAfter]
  (repeat' split) <;> simp

@[simp] theorem rejectEffects_keeps (p : Port) (h : Nat) (reason : Reason) (page : Nat) (s : State) :
    (rejectEffects p h reason page s).now = s.now ∧ (rejectEffects p h reason page s).pending = s.pending
    ∧ (rejectEffects p h reason page s).store.quota = s.store.quota
    ∧ (rejectEffects p h reason page s).comp.sheet = s.comp.sheet
    ∧ (rejectEffects p h reason page s).comp.halts = s.comp.halts
    ∧ (rejectEffects p h reason page s).comp.layouts = s.comp.layouts
    ∧ (rejectEffects p h reason page s).comp.nextLayout = s.comp.nextLayout
    ∧ (rejectEffects p h reason page s).comp.group = s.comp.group
    ∧ (rejectEffects p h reason page s).comp.pauseLimit = s.comp.pauseLimit
    ∧ (rejectEffects p h reason page s).comp.completionLimit = s.comp.completionLimit
    ∧ (rejectEffects p h reason page s).comp.ageLimit = s.comp.ageLimit
    ∧ (rejectEffects p h reason page s).comp.starveClose = s.comp.starveClose
    ∧ (rejectEffects p h reason page s).comp.nextSerial = s.comp.nextSerial
    ∧ (rejectEffects p h reason page s).comp.greatest = s.comp.greatest
    ∧ (rejectEffects p h reason page s).comp.cell = s.comp.cell ∧ (rejectEffects p h reason page s).dose = s.dose
    ∧ (rejectEffects p h reason page s).writer = s.writer ∧ (rejectEffects p h reason page s).beam = s.beam
    ∧ (rejectEffects p h reason page s).film = s.film ∧ (rejectEffects p h reason page s).index.ring = s.index.ring
    ∧ (rejectEffects p h reason page s).index.template = s.index.template := by
  simp [rejectEffects]

@[simp] theorem rejectEffects_ports (p : Port) (h : Nat) (reason : Reason) (page : Nat) (s : State) (q : Port) :
    ((rejectEffects p h reason page s).ports.get q).cls = (s.ports.get q).cls
    ∧ ((rejectEffects p h reason page s).ports.get q).up = (s.ports.get q).up := by
  simp [rejectEffects]

end Sys2Proof.Machine
end

