-- ==== Sys2Proof/Laws/Memory.lean ====
section
/-! SUPPORT. The laws of the block memory and of tables by handle: every operation keeps the canonical form, a read
after a write, and what a table answers after a record is put, removed or changed. -/

namespace Sys2Proof.Machine

/-! ## The block memory -/

theorem memoryWf_nil : memoryWf [] = true := rfl

theorem memoryWf_cons (c : Host.Cell) (m : List Host.Cell) :
    memoryWf (c :: m) = true ↔ (∀ x ∈ m, c.1 < x.1) ∧ c.2 ≠ unlistedByte ∧ memoryWf m = true := by
  simp only [memoryWf, List.pairwise_cons, List.all_cons, Bool.and_eq_true, decide_eq_true_eq, bne_iff_ne]
  tauto

/-- The addresses after a write are those before it and perhaps the one written. -/
theorem memoryWrite_mem {m : List Host.Cell} {a : Nat} {b : Byte} {x : Host.Cell} (h : x ∈ memoryWrite m a b) :
    x.1 = a ∨ x ∈ m := by
  induction m with
  | nil =>
    simp only [memoryWrite] at h
    split at h <;> simp_all
  | cons c m ih =>
    obtain ⟨k, v⟩ := c
    simp only [memoryWrite] at h
    (repeat' split at h) <;> simp only [List.mem_cons] at h ⊢
    · tauto
    · rcases h with rfl | h <;> tauto
    · tauto
    · rcases h with rfl | h <;> tauto
    · tauto

/-- A write keeps the canonical form. -/
theorem memoryWrite_wf {m : List Host.Cell} (h : memoryWf m = true) (a : Nat) (b : Byte) :
    memoryWf (memoryWrite m a b) = true := by
  induction m with
  | nil =>
    simp only [memoryWrite]
    split
    · exact h
    · next hb => exact (memoryWf_cons _ _).2 ⟨by simp, hb, rfl⟩
  | cons c m ih =>
    obtain ⟨k, v⟩ := c
    obtain ⟨hlt, hv, hm⟩ := (memoryWf_cons _ _).1 h
    simp only [memoryWrite]
    split
    · next hak =>
      split
      · exact h
      · next hb =>
        refine (memoryWf_cons _ _).2 ⟨?_, hb, h⟩
        intro x hx
        rcases List.mem_cons.1 hx with rfl | hx
        · exact hak
        · exact hak.trans (hlt x hx)
    · split
      · next hak =>
        split
        · exact hm
        · next hb => exact (memoryWf_cons _ _).2 ⟨fun x hx => hak ▸ hlt x hx, hb, hm⟩
      · refine (memoryWf_cons _ _).2 ⟨?_, hv, ih hm⟩
        intro x hx
        rcases memoryWrite_mem hx with hx | hx
        · simp only [hx]; omega
        · exact hlt x hx

/-- Consecutive writes keep the canonical form. -/
theorem memoryWriteAll_wf (bs : List Byte) {m : List Host.Cell} (h : memoryWf m = true) (a : Nat) :
    memoryWf (memoryWriteAll m a bs) = true := by
  induction bs generalizing m a with
  | nil => exact h
  | cons b bs ih => exact ih (memoryWrite_wf h a b) (a + 1)

/-- Writing rows keeps the canonical form. -/
theorem writeRows_wf (pg : Page) (n : Nat) {m : List Host.Cell} (h : memoryWf m = true) (r : Nat)
    (data : List Byte) : memoryWf (writeRows pg r n data m) = true := by
  induction n generalizing m r data with
  | zero => exact h
  | succ n ih => exact ih (memoryWriteAll_wf _ h _) _ _

/-- R84: what lands of an abandoned PUT ROWS keeps the canonical form. -/
theorem landHead_wf {before s : State} (h : memoryWf s.store.memory = true) :
    memoryWf (landHead before s).store.memory = true := by
  unfold landHead
  (repeat' split) <;> first | exact h | exact writeRows_wf _ _ h _ _

/-- An address below every listed one reads as unlisted. -/
theorem memoryRead_below {m : List Host.Cell} {a : Nat} (h : ∀ x ∈ m, a < x.1) : memoryRead m a = unlistedByte := by
  induction m with
  | nil => rfl
  | cons c m ih =>
    obtain ⟨k, v⟩ := c
    have : a < k := h (k, v) (by simp)
    simp only [memoryRead, if_neg (Nat.ne_of_lt this)]
    exact ih fun x hx => h x (by simp [hx])

/-- A read after a write: the byte written at its address, every other byte as before. -/
theorem memoryRead_write {m : List Host.Cell} (h : memoryWf m = true) (a : Nat) (b : Byte) (x : Nat) :
    memoryRead (memoryWrite m a b) x = if x = a then b else memoryRead m x := by
  induction m with
  | nil =>
    simp only [memoryWrite]
    split
    · next hb => subst hb; simp [memoryRead]
    · simp [memoryRead]
  | cons c m ih =>
    obtain ⟨k, v⟩ := c
    obtain ⟨hlt, -, hm⟩ := (memoryWf_cons _ _).1 h
    simp only [memoryWrite]
    split
    · next hak =>
      have hbelow : memoryRead ((k, v) :: m) a = unlistedByte := by
        refine memoryRead_below fun x hx => ?_
        rcases List.mem_cons.1 hx with rfl | hx
        · exact hak
        · exact hak.trans (hlt x hx)
      split
      · next hb => split <;> simp_all
      · simp only [memoryRead]
    · split
      · next hak =>
        subst hak
        split
        · next hb =>
          simp only [memoryRead]
          split
          · next hx => subst hx; rw [hb]; exact memoryRead_below hlt
          · rfl
        · simp only [memoryRead]; split <;> rfl
      · next hne =>
        simp only [memoryRead, ih hm]
        split
        · next hx => subst hx; rw [if_neg (fun e => hne e.symm)]
        · rfl

/-- Consecutive writes leave every byte outside them as before. -/
theorem memoryRead_writeAll_outside (bs : List Byte) {m : List Host.Cell} (h : memoryWf m = true) {a x : Nat}
    (hx : x < a ∨ a + bs.length ≤ x) : memoryRead (memoryWriteAll m a bs) x = memoryRead m x := by
  induction bs generalizing m a with
  | nil => rfl
  | cons b bs ih =>
    simp only [List.length_cons] at hx
    rw [memoryWriteAll, ih (memoryWrite_wf h a b) (by omega), memoryRead_write h, if_neg (by omega)]

/-- Consecutive writes can be read back. -/
theorem memoryRead_writeAll_at (bs : List Byte) {m : List Host.Cell} (h : memoryWf m = true) (a : Nat) {i : Nat}
    (hi : i < bs.length) : memoryRead (memoryWriteAll m a bs) (a + i) = bs[i] := by
  induction bs generalizing m a i with
  | nil => simp at hi
  | cons b bs ih =>
    cases i with
    | zero =>
      rw [memoryWriteAll, memoryRead_writeAll_outside bs (memoryWrite_wf h a b) (by omega), memoryRead_write h]
      simp
    | succ i =>
      have := ih (memoryWrite_wf h a b) (a + 1) (i := i) (by simpa using hi)
      simpa [memoryWriteAll, Nat.add_assoc, Nat.add_comm 1 i] using this

/-! ## Tables by handle -/

/-- The keys of a table rise strictly. -/
def TableRising {α : Type} (t : Table α) : Prop := t.Pairwise fun x y => x.1 < y.1

theorem tableGet_below {α : Type} {t : Table α} {h : Nat} (hb : ∀ x ∈ t, h < x.1) : tableGet t h = none := by
  induction t with
  | nil => rfl
  | cons c t ih =>
    obtain ⟨k, v⟩ := c
    have : h < k := hb (k, v) (by simp)
    simp only [tableGet, if_neg (Nat.ne_of_lt this)]
    exact ih fun x hx => hb x (by simp [hx])

/-- A table after a record is put under a handle. -/
theorem tableGet_put {α : Type} (t : Table α) (h : Nat) (x : α) (h' : Nat) :
    tableGet (tablePut t h x) h' = if h' = h then some x else tableGet t h' := by
  induction t with
  | nil => simp [tablePut, tableGet]
  | cons c t ih =>
    obtain ⟨k, v⟩ := c
    simp only [tablePut]
    split
    · simp only [tableGet]
    · split
      · next e => subst e; simp only [tableGet]; split <;> rfl
      · next hne =>
        simp only [tableGet, ih]
        split
        · next e => subst e; rw [if_neg (fun e => hne e.symm)]
        · rfl

/-- A table after the record under a handle is removed. -/
theorem tableGet_erase {α : Type} (t : Table α) (h h' : Nat) :
    tableGet (tableErase t h) h' = if h' = h then none else tableGet t h' := by
  induction t with
  | nil => simp [tableErase, tableGet]
  | cons c t ih =>
    obtain ⟨k, v⟩ := c
    simp only [tableErase]
    split
    · next e => subst e; rw [ih]; simp only [tableGet]; split <;> rfl
    · next hne =>
      simp only [tableGet, ih]
      split
      · next e => subst e; rw [if_neg (fun e => hne e.symm)]
      · rfl

/-- A table after the record under a handle is changed. -/
theorem tableGet_modify {α : Type} (f : α → α) (t : Table α) (h h' : Nat) :
    tableGet (tableModify f t h) h' = if h' = h then (tableGet t h').map f else tableGet t h' := by
  induction t with
  | nil => simp [tableModify, tableGet]
  | cons c t ih =>
    obtain ⟨k, v⟩ := c
    simp only [tableModify]
    split
    · next e =>
      subst e
      simp only [tableGet, ih]
      split <;> rfl
    · next hne =>
      simp only [tableGet, ih]
      split
      · next e => subst e; rw [if_neg (fun e => hne e.symm)]
      · rfl

theorem tablePut_mem {α : Type} {t : Table α} {h : Nat} {x : α} {y : Nat × α} (hy : y ∈ tablePut t h x) :
    y.1 = h ∨ y ∈ t := by
  induction t with
  | nil => simp_all [tablePut]
  | cons c t ih =>
    obtain ⟨k, v⟩ := c
    simp only [tablePut] at hy
    (repeat' split at hy) <;> simp_all only [List.mem_cons] <;> rcases hy with rfl | hy <;> simp_all <;> tauto

/-- Putting a record keeps the keys rising. -/
theorem TableRising.put {α : Type} {t : Table α} (ht : TableRising t) (h : Nat) (x : α) :
    TableRising (tablePut t h x) := by
  induction t with
  | nil => simp [tablePut, TableRising]
  | cons c t ih =>
    obtain ⟨k, v⟩ := c
    obtain ⟨hlt, hr⟩ := List.pairwise_cons.1 ht
    simp only [tablePut]
    split
    · next hk =>
      refine List.pairwise_cons.2 ⟨fun y hy => ?_, ht⟩
      rcases List.mem_cons.1 hy with rfl | hy
      · exact hk
      · exact hk.trans (hlt y hy)
    · split
      · next e => exact List.pairwise_cons.2 ⟨fun y hy => e ▸ hlt y hy, hr⟩
      · refine List.pairwise_cons.2 ⟨fun y hy => ?_, ih hr⟩
        rcases tablePut_mem hy with e | hy
        · simp only [e]; omega
        · exact hlt y hy

theorem tableErase_mem {α : Type} {t : Table α} {h : Nat} {y : Nat × α} (hy : y ∈ tableErase t h) : y ∈ t := by
  induction t with
  | nil => simp_all [tableErase]
  | cons c t ih =>
    simp only [tableErase] at hy
    split at hy <;> simp_all <;> tauto

/-- Removing a record keeps the keys rising. -/
theorem TableRising.erase {α : Type} {t : Table α} (ht : TableRising t) (h : Nat) : TableRising (tableErase t h) := by
  induction t with
  | nil => exact ht
  | cons c t ih =>
    obtain ⟨hlt, hr⟩ := List.pairwise_cons.1 ht
    simp only [tableErase]
    split
    · exact ih hr
    · exact List.pairwise_cons.2 ⟨fun y hy => hlt y (tableErase_mem hy), ih hr⟩

/-- Changing a record keeps the keys. -/
theorem tableModify_keys {α : Type} (f : α → α) (t : Table α) (h : Nat) :
    (tableModify f t h).map (·.1) = t.map (·.1) := by
  induction t with
  | nil => rfl
  | cons c t ih => simp only [tableModify, List.map_cons, ih]; split <;> rfl

/-- R28, R73: the handle taken is below the limit and not in use, and every lower handle is in use. -/
theorem tableFree_spec {α : Type} {t : Table α} {limit h : Nat} (hf : tableFree t limit = some h) :
    h < limit ∧ tableGet t h = none ∧ ∀ k < h, (tableGet t k).isSome := by
  unfold tableFree at hf
  rw [List.find?_range_eq_some] at hf
  obtain ⟨h1, h2, h3⟩ := hf
  refine ⟨List.mem_range.1 h2, by simpa using h1, fun k hk => ?_⟩
  have := h3 k hk
  cases hg : tableGet t k <;> simp_all

end Sys2Proof.Machine
end

