-- ==== Sys2Proof/Laws/Effects.lean ====
section
/-! SUPPORT. What the shared operations do, once each: the tests that follow an event (`settle_from`), what a port is
tested for before its request reaches a block, notices, the halt list and the measurements. -/

namespace Sys2Proof.Machine

/-! ## Values per port -/

@[simp] theorem get_set_same {α : Type} (x : PerPort α) (p : Port) (v : α) : (x.set p v).get p = v := by
  cases p <;> rfl

theorem get_set_ne {α : Type} (x : PerPort α) {p q : Port} (v : α) (h : q ≠ p) : (x.set p v).get q = x.get q := by
  cases p <;> cases q <;> first | rfl | exact absurd rfl h

@[simp] theorem get_map {α β : Type} (f : α → β) (x : PerPort α) (p : Port) : (x.map f).get p = f (x.get p) := by
  cases p <;> rfl

/-! ## Requests -/

/-- R174, R176: a port that accepts a request hands it to its block. -/
theorem request_accepted {s : State} {p : Port} {k : Kind} (h : accepts s p k) (tag : Nat) (block : State → State) :
    request p k tag s block = .next (block s) := by
  obtain ⟨hu, hb, hc⟩ := h
  unfold request
  rw [if_neg (by simp [hu]), if_neg (by simp [hb]), if_neg]
  rintro ⟨h1, h2⟩
  rw [hc h1] at h2
  cases h2

/-- R175: an answer is one more reply on the port's link. -/
theorem answer_eq (p : Port) (k : Kind) (tag : Nat) (status : Status) (body : List Byte) (s : State) :
    answer p k tag status body s = withReply p (k.code + 0x80) tag status body s := rfl

/-! ## The halt list and the serial write -/

/-- R21, R116: what the joining of a cause does. -/
theorem addHalt_eq (c : HaltCause) (s : State) : addHalt c s = withCause c s := by
  unfold addHalt withCause notifyAll
  split
  · rfl
  · dsimp only
    split <;> rfl

/-- R21, R23, R116: what the removal of a cause that stands in the list does. -/
theorem dropHalt_eq {c : HaltCause} {s : State} (h : c ∈ s.comp.halts) : dropHalt c s = withoutCause c s := by
  unfold dropHalt withoutCause notifyAll
  rw [if_pos h]
  dsimp only
  split
  · rename_i h0
    rw [h0]
    split <;> rfl
  · rfl

/-- R23: a cause that does not stand in the list is removed by doing nothing. -/
theorem dropHalt_absent {c : HaltCause} {s : State} (h : c ∉ s.comp.halts) : dropHalt c s = s := if_neg h

/-- R23: one port's RESUME that waits for the serial write. -/
theorem answerWriter_eq (status : Status) (s : State) (p : Port) :
    answerWriter status s p = { s with ports := s.ports.set p ((s.ports.get p).writeAnswered status) } := by
  rcases s with ⟨⟩
  cases p <;>
  · simp only [answerWriter, waitsForWrite, PortRec.writeAnswered, setIdle, answer, sendReply, modPort, PerPort.get,
      PerPort.set]
    split <;> split <;> simp_all [Kind.code]

/-- R23: every RESUME that waits for the serial write is answered on its own port. -/
theorem answerWriters_eq (status : Status) (s : State) :
    answerWriters status s = { s with ports := s.ports.map (PortRec.writeAnswered status) } := by
  simp only [answerWriters, allPorts, List.foldl, answerWriter_eq]
  rfl

/-- R3: the entry to OPEN, but for the run of the arbiter. -/
theorem enterOpen_eq {s : State} {r : SheetRec} (h : s.index.current = some r) :
    enterOpen s = triggerPorts (openedSheet r s) := by
  simp only [enterOpen, h]
  rfl

/-! ## The tests that follow an event -/

/-- The arbiter's part of what follows an event: the run in progress is changed at most, or an OPEN sheet is closed. -/
def RunOrClose (s x : State) : Prop :=
  (∃ run, x = setRun run s)
    ∨ ∃ run reason, s.comp.sheet = .open ∧ x = setRun run (enterClosing reason (setRun none s))

/-- R13: in CLOSING the arbiter may begin a run; nothing else changes. -/
theorem serveRetakes_cases (s : State) : ∃ run, serveRetakes s = setRun run s := by
  unfold serveRetakes
  (repeat' split) <;> first | exact ⟨_, rfl⟩ | exact ⟨s.comp.run, rfl⟩

/-- R12: a close test leaves the sheet as it is, or closes an OPEN one. -/
theorem closeTest_cases (s : State) :
    closeTest s = s ∨ ∃ reason, s.comp.sheet = .open ∧ closeTest s = enterClosing reason s := by
  unfold closeTest
  (repeat' split) <;> first | exact .inl rfl | exact .inr ⟨_, ‹_›, rfl⟩

/-- R12, R50: what the end of a run leaves. -/
theorem endRun_cases (s : State) : RunOrClose s (serveRetakes (closeTest (setRun none s))) := by
  obtain ⟨run, h⟩ := serveRetakes_cases (closeTest (setRun none s))
  rw [h]
  rcases closeTest_cases (setRun none s) with h' | ⟨reason, ho, h'⟩ <;> rw [h']
  · exact .inl ⟨run, rfl⟩
  · exact .inr ⟨run, reason, ho, rfl⟩

/-- A record is kept by changing none of its frames. -/
theorem RecordKept.of_fields {r : SheetRec} (st : SheetStatus) (re : Option CloseReason) :
    RecordKept r { r with status := st, reason := re } := ⟨rfl, fun _ _ h _ => h, rfl⟩

theorem RecordKept.rfl' (r : SheetRec) : RecordKept r r := ⟨rfl, fun _ _ h _ => h, rfl⟩

theorem RecordKept.trans {a b c : SheetRec} (h : RecordKept a b) (k : RecordKept b c) : RecordKept a c := by
  refine ⟨?_, fun n f hf hk => k.frames n f (h.frames n f hf hk) hk, k.size.trans h.size⟩
  have h1 := h.fields
  have k1 := k.fields
  rw [k1, h1]

/-- R19: entry to INDEXING keeps the record. -/
theorem RecordKept.indexing (r : SheetRec) :
    RecordKept r { r with
      title := .pending
      frames := r.frames.map fun f => if f.kind = .index then { f with state := .ready } else f } := by
  refine ⟨rfl, fun n f hf hk => ?_, by simp⟩
  simp [hf, hk]

/-- What the tests up to the passage to INDEXING can change. -/
theorem passageTest_cases (s : State) :
    ∃ sheet run completion current rendered,
      passageTest (stopCompletion s) =
        { s with
          comp := { s.comp with sheet := sheet, run := run, completion := completion }
          index := { s.index with current := current, rendered := rendered } }
      ∧ (sheet = s.comp.sheet ∧ current = s.index.current
        ∨ s.comp.sheet = .closing ∧ sheet = .indexing ∧ ∃ r r', s.index.current = some r ∧ current = some r'
            ∧ RecordKept r r' ∧ r'.title = .pending) := by
  obtain ⟨x, hx⟩ : ∃ x, stopCompletion s = { s with comp := { s.comp with completion := x } } := by
    unfold stopCompletion
    split
    · exact ⟨none, rfl⟩
    · exact ⟨s.comp.completion, rfl⟩
  rw [hx]
  unfold passageTest
  split
  · exact ⟨s.comp.sheet, s.comp.run, x, s.index.current, s.index.rendered, rfl, .inl ⟨rfl, rfl⟩⟩
  · next r hr =>
    split
    · next hc =>
      refine ⟨.indexing, none, x, _, _, rfl, .inr ⟨hc.1, rfl, r, _, hr, congrArg (Option.map _) hr, RecordKept.indexing r, rfl⟩⟩
    · exact ⟨s.comp.sheet, s.comp.run, x, s.index.current, s.index.rendered, rfl, .inl ⟨rfl, rfl⟩⟩

/-- What the tests up to the opening conditions can change. -/
theorem passages_cases (s x : State) (hx : RunOrClose s x) :
    ∃ sheet run age completion current rendered queue,
      finishTest (passageTest (stopCompletion x)) =
        { s with
          comp := { s.comp with sheet := sheet, run := run, age := age, completion := completion }
          index := { s.index with current := current, rendered := rendered }
          film := { s.film with queue := queue } }
      ∧ sheetFollows s.comp.sheet sheet = true
      ∧ (sheet = .idle ↔ s.comp.sheet = .idle)
      ∧ (s.comp.sheet ≠ .indexing → queue = s.film.queue)
      ∧ (match s.index.current, current with
          | some r, some r' => RecordKept r r'
          | none, none => True
          | _, _ => False) := by
  have keep : ∀ c : Option SheetRec, (match c, c with
          | some r, some r' => RecordKept r r'
          | none, none => True
          | _, _ => False) := by
    intro c
    cases c
    · trivial
    · exact RecordKept.rfl' _
  have same : ∀ t, sheetFollows t t = true := by intro t; cases t <;> rfl
  have fin : ∀ t : State, finishTest t = t ∨ t.comp.sheet = .indexing
      ∧ (∃ r, t.index.current = some r ∧ r.title ≠ .pending)
      ∧ finishTest t = enqueueOp .finishing { t with comp := { t.comp with sheet := .finishing } } := by
    intro t
    unfold finishTest
    split
    · exact .inl rfl
    · next r hr =>
      split
      · next hc =>
        refine .inr ⟨hc.1, ⟨r, hr, ?_⟩, rfl⟩
        have := hc.2
        simp only [indexDone, Bool.and_eq_true] at this
        simpa using this.2
      · exact .inl rfl
  rcases hx with ⟨run, h⟩ | ⟨run, reason, ho, h⟩ <;> rw [h]
  · obtain ⟨sheet, run', completion, current, rendered, he, hr⟩ := passageTest_cases (setRun run s)
    have hf := fin (passageTest (stopCompletion (setRun run s)))
    rw [he] at hf ⊢
    rcases hf with hf | ⟨hi, ⟨r, hc, ht⟩, hf⟩ <;> rw [hf]
    · refine ⟨sheet, run', s.comp.age, completion, current, rendered, s.film.queue, rfl, ?_, ?_, fun _ => rfl, ?_⟩
      · rcases hr with ⟨rfl, -⟩ | ⟨h1, rfl, -⟩
        · exact same _
        · rw [show s.comp.sheet = .closing from h1]; rfl
      · rcases hr with ⟨rfl, -⟩ | ⟨h1, rfl, -⟩
        · rfl
        · rw [show s.comp.sheet = .closing from h1]; simp
      · rcases hr with ⟨-, rfl⟩ | ⟨-, -, r, r', h1, rfl, h2, -⟩
        · exact keep _
        · rw [show s.index.current = some r from h1]; exact h2
    · rcases hr with ⟨rfl, rfl⟩ | ⟨-, -, r1, r', h1, rfl, h2, h3⟩
      · have hi' : s.comp.sheet = .indexing := hi
        exact ⟨.finishing, run', s.comp.age, completion, s.index.current, rendered, s.film.queue ++ [.finishing], rfl,
          by rw [hi']; rfl, by rw [hi']; simp, fun hn => absurd hi' hn, keep _⟩
      · cases hc
        exact absurd h3 ht
  · obtain ⟨sheet, run', completion, current, rendered, he, hr⟩ :=
      passageTest_cases (setRun run (enterClosing reason (setRun none s)))
    have hf := fin (passageTest (stopCompletion (setRun run (enterClosing reason (setRun none s)))))
    rw [he] at hf ⊢
    have hk : ∀ r, s.index.current = some r →
        (setRun run (enterClosing reason (setRun none s))).index.current
          = some { r with status := .closed, reason := some reason } := fun r hr => congrArg (Option.map _) hr
    have hn : s.index.current = none →
        (setRun run (enterClosing reason (setRun none s))).index.current = none := fun hr => congrArg (Option.map _) hr
    rcases hf with hf | ⟨hi, ⟨r, hc, ht⟩, hf⟩ <;> rw [hf]
    · refine ⟨sheet, run', none, completion, current, rendered, s.film.queue, rfl, ?_, ?_, fun _ => rfl, ?_⟩
      · rw [ho]
        rcases hr with ⟨rfl, -⟩ | ⟨-, rfl, -⟩ <;> rfl
      · rw [ho]
        rcases hr with ⟨rfl, -⟩ | ⟨-, rfl, -⟩
        · exact ⟨(fun h => nomatch (show SheetState.closing = .idle from h)), (fun h => nomatch h)⟩
        · simp
      · rcases hr with ⟨-, rfl⟩ | ⟨-, -, r, r', h1, rfl, h2, -⟩
        · cases hs : s.index.current with
          | none => rw [hn hs]; trivial
          | some r => rw [hk r hs]; exact RecordKept.of_fields _ _
        · cases hs : s.index.current with
          | none => rw [hn hs] at h1; cases h1
          | some r0 => rw [hk r0 hs] at h1; cases h1; exact (RecordKept.of_fields _ _).trans h2
    · rcases hr with ⟨rfl, rfl⟩ | ⟨-, -, r1, r', h1, rfl, h2, h3⟩
      · exact nomatch (show SheetState.closing = .indexing from hi)
      · cases hc
        exact absurd h3 ht

/-- What the transport can change when it tests its head. -/
theorem pump_cases (s : State) :
    ∃ stage motion queue gateDue clamped sample waiting inFlight serving,
      pump s = { s with
        film := { s.film with stage := stage, motion := motion, queue := queue, gateDue := gateDue, clamped := clamped }
        writer := { s.writer with sample := sample }
        beam := { s.beam with waiting := waiting, inFlight := inFlight, serving := serving } } := by
  have kick : ∀ t : State, ∃ waiting inFlight serving,
      kickBeam t = { t with beam := { t.beam with waiting := waiting, inFlight := inFlight, serving := serving } } := by
    intro t
    unfold kickBeam
    split
    · exact ⟨_, _, _, rfl⟩
    · exact ⟨t.beam.waiting, t.beam.inFlight, t.beam.serving, rfl⟩
  have report : ∀ (live : Bool) (t : State), ∃ sample waiting inFlight serving,
      reportArrival live t = { t with
        writer := { t.writer with sample := sample }
        beam := { t.beam with waiting := waiting, inFlight := inFlight, serving := serving } } := by
    intro live t
    unfold reportArrival joinMeasurement
    split
    · obtain ⟨w, i, v, h⟩ := kick (addRequester .writer { t with writer := { t.writer with sample := some .start } })
      rw [h]
      unfold addRequester
      split
      · exact ⟨_, _, _, _, rfl⟩
      · exact ⟨_, _, _, _, rfl⟩
    · exact ⟨t.writer.sample, t.beam.waiting, t.beam.inFlight, t.beam.serving, rfl⟩
  have begins : ∀ (op : Operation) (t : State), ∃ stage motion gateDue clamped sample waiting inFlight serving,
      beginOp op t = { t with
        film := { t.film with stage := stage, motion := motion, gateDue := gateDue, clamped := clamped }
        writer := { t.writer with sample := sample }
        beam := { t.beam with waiting := waiting, inFlight := inFlight, serving := serving } } := by
    intro op t
    unfold beginOp
    split
    · split
      · obtain ⟨a, b, c, d, h⟩ := report _ t
        exact ⟨t.film.stage, t.film.motion, t.film.gateDue, t.film.clamped, a, b, c, d, h⟩
      · exact ⟨_, _, t.film.gateDue, t.film.clamped, t.writer.sample, t.beam.waiting, t.beam.inFlight, t.beam.serving,
          rfl⟩
    · exact ⟨_, _, t.film.gateDue, t.film.clamped, t.writer.sample, t.beam.waiting, t.beam.inFlight, t.beam.serving,
        rfl⟩
    · exact ⟨t.film.stage, _, _, _, t.writer.sample, t.beam.waiting, t.beam.inFlight, t.beam.serving, rfl⟩
    all_goals exact ⟨t.film.stage, _, t.film.gateDue, t.film.clamped, t.writer.sample, t.beam.waiting, t.beam.inFlight,
      t.beam.serving, rfl⟩
  have all : ∀ (n : Nat) (t : State), ∃ stage motion queue gateDue clamped sample waiting inFlight serving,
      pumpFor n t = { t with
        film := { t.film with stage := stage, motion := motion, queue := queue, gateDue := gateDue, clamped := clamped }
        writer := { t.writer with sample := sample }
        beam := { t.beam with waiting := waiting, inFlight := inFlight, serving := serving } } := by
    intro n
    induction n with
    | zero =>
      intro t
      exact ⟨t.film.stage, t.film.motion, t.film.queue, t.film.gateDue, t.film.clamped, t.writer.sample,
        t.beam.waiting, t.beam.inFlight, t.beam.serving, rfl⟩
    | succ n ih =>
      intro t
      simp only [pumpFor]
      split
      · next s' op hn =>
        obtain ⟨q, rfl⟩ := nextOp_keeps hn
        obtain ⟨a, b, c, d, e, f, g, i, h⟩ := begins op { t with film := { t.film with queue := q } }
        rw [h]
        obtain ⟨a', b', q', c', d', e', f', g', i', h'⟩ := ih { t with
          film := { t.film with stage := a, motion := b, queue := q, gateDue := c, clamped := d }
          writer := { t.writer with sample := e }
          beam := { t.beam with waiting := f, inFlight := g, serving := i } }
        exact ⟨a', b', q', c', d', e', f', g', i', h'⟩
      · exact ⟨t.film.stage, t.film.motion, t.film.queue, t.film.gateDue, t.film.clamped, t.writer.sample,
          t.beam.waiting, t.beam.inFlight, t.beam.serving, rfl⟩
  exact all _ s

/-- R147: with a motion in progress the transport begins nothing. -/
theorem pump_moving {s : State} (h : s.film.motion ≠ none) : pump s = s := by
  obtain ⟨m, hm⟩ := Option.ne_none_iff_exists'.mp h
  simp [pump, pumpFor, nextOp, hm]

/-- R147: with nothing asked for the transport begins nothing. -/
theorem pump_idle {s : State} (hq : s.film.queue = []) (hh : s.film.heldOp = none) (hr : s.film.rehome = false) :
    pump s = s := by
  simp [pump, pumpFor, nextOp, headOp, hq, hh, hr]

/-- R2: what the test of the opening conditions can change. -/
theorem openTest_cases (s : State) :
    openTest s = s
      ∨ s.comp.sheet = .idle ∧ s.comp.halts = [] ∧ openTest s = enterOpening s
      ∨ s.comp.sheet = .idle ∧ s.comp.halts = []
        ∧ openTest s = addHalt .serial { s with comp := { s.comp with exhausted := true } } := by
  unfold openTest
  split
  · next h =>
    split
    · exact .inr (.inl ⟨h.1, h.2.1, rfl⟩)
    · split
      · exact .inl rfl
      · exact .inr (.inr ⟨h.1, h.2.1, rfl⟩)
  · exact .inl rfl

/-- What a notice leaves of a port is a notice raised. -/
theorem notifyBureau_get (n : Notice) (s : State) (p : Port) :
    ∃ l : List Notice, (notifyBureau n s).ports.get p = l.foldl (fun r n => r.raise n) (s.ports.get p) := by
  simp only [notifyBureau, get_map]
  split
  · exact ⟨[n], rfl⟩
  · exact ⟨[], rfl⟩

theorem notifyAll_get (n : Notice) (s : State) (p : Port) :
    (notifyAll n s).ports.get p = (s.ports.get p).raise n := by simp [notifyAll]

/-- R2, R10, R151: the test of the opening conditions as one update. -/
theorem openTest_shape (s : State) :
    ∃ ports sheet halts exhausted nextSerial greatest write firstGrant advanced finishDue latch mode count queue current,
      openTest s = { s with
        ports := ports
        comp := { s.comp with
          sheet := sheet, halts := halts, exhausted := exhausted, nextSerial := nextSerial, greatest := greatest
          write := write, firstGrant := firstGrant, advanced := advanced, finishDue := finishDue }
        dose := { s.dose with sheet := latch }
        writer := { s.writer with mode := mode }
        film := { s.film with count := count, queue := queue }
        index := { s.index with current := current } }
      ∧ (∀ p : Port, ∃ raised : List Notice,
          PerPort.get ports p = raised.foldl (fun r n => r.raise n) (s.ports.get p))
      ∧ (sheet = s.comp.sheet ∨ s.comp.sheet = .idle ∧ sheet = .opening)
      ∧ (halts = s.comp.halts ∨ s.comp.sheet = .idle ∧ s.comp.halts = [] ∧ halts = [.serial])
      ∧ (mode = s.writer.mode ∨ s.writer.mode = .idle ∧ mode = .held ∧ halts = [.serial]) := by
  rcases openTest_cases s with h | ⟨hs, hh, h⟩ | ⟨hs, hh, h⟩ <;> rw [h]
  · exact ⟨s.ports, s.comp.sheet, s.comp.halts, s.comp.exhausted, s.comp.nextSerial, s.comp.greatest, s.comp.write,
      s.comp.firstGrant, s.comp.advanced, s.comp.finishDue, s.dose.sheet, s.writer.mode, s.film.count, s.film.queue,
      s.index.current, rfl, fun p => ⟨[], rfl⟩, .inl rfl, .inl rfl, .inl rfl⟩
  · unfold enterOpening takeSheetOfFilm
    dsimp only
    split
    · exact ⟨_, _, s.comp.halts, s.comp.exhausted, _, _, _, _, _, _, _, s.writer.mode, _, _, _, rfl,
        fun p => notifyBureau_get _ _ p, .inr ⟨hs, rfl⟩, .inl rfl, .inl rfl⟩
    · exact ⟨_, _, s.comp.halts, s.comp.exhausted, _, _, _, _, _, _, _, s.writer.mode, _, _, _, rfl,
        fun p => ⟨[], rfl⟩, .inr ⟨hs, rfl⟩, .inl rfl, .inl rfl⟩
  · unfold addHalt
    rw [if_neg (by simp [hh])]
    dsimp only
    split
    · next hm =>
      exact ⟨_, s.comp.sheet, _, _, s.comp.nextSerial, s.comp.greatest, s.comp.write, s.comp.firstGrant,
        s.comp.advanced, s.comp.finishDue, s.dose.sheet, _, s.film.count, s.film.queue, s.index.current, rfl,
        fun p => ⟨[.halted .serial], notifyAll_get _ _ p⟩, .inl rfl, .inr ⟨hs, hh, by simp [hh]⟩,
        .inr ⟨hm, rfl, by simp [hh]⟩⟩
    · exact ⟨_, s.comp.sheet, _, _, s.comp.nextSerial, s.comp.greatest, s.comp.write, s.comp.firstGrant,
        s.comp.advanced, s.comp.finishDue, s.dose.sheet, s.writer.mode, s.film.count, s.film.queue, s.index.current,
        rfl, fun p => ⟨[.halted .serial], notifyAll_get _ _ p⟩, .inl rfl, .inr ⟨hs, hh, by simp [hh]⟩, .inl rfl⟩

/-- Outside IDLE the test of the opening conditions does nothing. -/
theorem openTest_not_idle {s : State} (h : s.comp.sheet ≠ .idle) : openTest s = s := by
  simp [openTest, h]

/-- What the tests that follow an event do, whatever the arbiter's part of them. -/
theorem settled_from (s x : State) (hx : RunOrClose s x) :
    SettledFrom s (pump (openTest (finishTest (passageTest (stopCompletion x))))) := by
  obtain ⟨sheet, run, age, completion, current, rendered, queue, he, hs, hi, hq, hr⟩ := passages_cases s x hx
  rw [he]
  by_cases idle : s.comp.sheet = .idle
  · obtain ⟨ports, sheet', halts, exhausted, nextSerial, greatest, write, firstGrant, advanced, finishDue, latch, mode,
      count, queue', current', ho, hp, h1, h2, h3⟩ := openTest_shape { s with
        comp := { s.comp with sheet := sheet, run := run, age := age, completion := completion }
        index := { s.index with current := current, rendered := rendered }
        film := { s.film with queue := queue } }
    rw [ho]
    have hidle : sheet = .idle := hi.mpr idle
    obtain ⟨a, b, c, d, e, f, g, i, k, hk⟩ := pump_cases { s with
        ports := ports
        comp := { s.comp with
          sheet := sheet', halts := halts, run := run, age := age, completion := completion, exhausted := exhausted
          nextSerial := nextSerial, greatest := greatest, write := write, firstGrant := firstGrant
          advanced := advanced, finishDue := finishDue }
        dose := { s.dose with sheet := latch }
        writer := { s.writer with mode := mode }
        film := { s.film with count := count, queue := queue' }
        index := { s.index with current := current', rendered := rendered } }
    have hmv := fun h => pump_moving (s := { s with
        ports := ports
        comp := { s.comp with
          sheet := sheet', halts := halts, run := run, age := age, completion := completion, exhausted := exhausted
          nextSerial := nextSerial, greatest := greatest, write := write, firstGrant := firstGrant
          advanced := advanced, finishDue := finishDue }
        dose := { s.dose with sheet := latch }
        writer := { s.writer with mode := mode }
        film := { s.film with count := count, queue := queue' }
        index := { s.index with current := current', rendered := rendered } }) h
    refine
      { model := ?model, ports := ?ports, docs := ?docs, store := ?store, comp := ?comp, sheet := ?sheet, halts := ?halts
        serial := fun h => absurd idle h, dose := ?dose, latch := fun h => absurd idle h, writer := ?writer, mode := ?mode
        beam := ?beam, film := ?film, moving := fun h => ?moving, quiet := fun _ _ _ h => absurd idle h, index := ?index
        record := fun h => absurd idle h }
    case moving => rw [hmv h]; exact ⟨rfl, rfl, rfl, rfl, rfl, rfl⟩
    all_goals rw [hk]
    case model => exact ⟨rfl, rfl, rfl⟩
    case ports => exact hp
    case sheet =>
      rw [idle]
      rcases h1 with h1 | ⟨-, h1⟩
      · have : sheet' = .idle := h1.trans hidle
        subst this; rfl
      · subst h1; rfl
    case halts =>
      rcases h2 with h2 | ⟨-, h2, h4⟩
      · exact .inl h2
      · exact .inr ⟨idle, h2, h4⟩
    case mode => exact h3
  · have hne : sheet ≠ .idle := fun h => idle (hi.mp h)
    rw [openTest_not_idle (by exact hne)]
    obtain ⟨a, b, c, d, e, f, g, i, k, hk⟩ := pump_cases { s with
        comp := { s.comp with sheet := sheet, run := run, age := age, completion := completion }
        index := { s.index with current := current, rendered := rendered }
        film := { s.film with queue := queue } }
    have hmv := fun h => pump_moving (s := { s with
        comp := { s.comp with sheet := sheet, run := run, age := age, completion := completion }
        index := { s.index with current := current, rendered := rendered }
        film := { s.film with queue := queue } }) h
    have hid := fun h1 h2 h3 => pump_idle (s := { s with
        comp := { s.comp with sheet := sheet, run := run, age := age, completion := completion }
        index := { s.index with current := current, rendered := rendered }
        film := { s.film with queue := queue } }) h1 h2 h3
    refine
      { model := ?model', ports := ?ports', docs := ?docs', store := ?store', comp := ?comp', sheet := ?sheet', halts := ?halts'
        serial := fun _ => ?serial', dose := ?dose', latch := fun _ => ?latch', writer := ?writer', mode := ?mode'
        beam := ?beam', film := ?film', moving := fun h => ?moving', quiet := fun h1 h2 h3 _ h5 => ?quiet', index := ?index'
        record := fun _ => ?record' }
    case moving' => rw [hmv h]; exact ⟨rfl, rfl, rfl, rfl, rfl, rfl⟩
    case quiet' =>
      have hq' := hq h5
      subst hq'
      rw [hid h1 h2 h3]
      exact ⟨rfl, rfl, rfl⟩
    all_goals rw [hk]
    case model' => exact ⟨rfl, rfl, rfl⟩
    case ports' => exact fun p => ⟨[], rfl⟩
    case sheet' => exact hs
    case halts' => exact .inl rfl
    case mode' => exact .inl rfl
    case serial' => exact ⟨rfl, rfl, rfl, rfl, rfl, rfl, rfl⟩
    case record' => exact hr

/-- What follows an event. -/
theorem settle_from (s : State) : SettledFrom s (settle s) := settled_from s _ (.inl (serveRetakes_cases s))

/-- A change of the run alone is one that `SettledFrom` leaves open. -/
theorem SettledFrom.of_run (s : State) (run : Option ArbRun) : SettledFrom s (setRun run s) := by
  refine
    { model := ⟨rfl, rfl, rfl⟩, ports := fun p => ⟨[], rfl⟩, docs := rfl, store := rfl, comp := rfl, sheet := ?sheet
      halts := .inl rfl, serial := fun _ => ⟨rfl, rfl, rfl, rfl, rfl, rfl, rfl⟩, dose := rfl, latch := fun _ => rfl
      writer := rfl, mode := .inl rfl, beam := rfl, film := rfl, moving := fun _ => ⟨rfl, rfl, rfl, rfl, rfl, rfl⟩
      quiet := fun _ _ _ _ _ => ⟨rfl, rfl, rfl⟩, index := rfl, record := fun _ => ?record }
  case sheet => show sheetFollows s.comp.sheet s.comp.sheet = true; cases s.comp.sheet <;> rfl
  case record =>
    show match s.index.current, s.index.current with
      | some r, some r' => RecordKept r r'
      | none, none => True
      | _, _ => False
    cases s.index.current with
    | none => trivial
    | some r => exact RecordKept.rfl' r

theorem SettledFrom.refl (s : State) : SettledFrom s s := SettledFrom.of_run s s.comp.run

/-- R12, R50: what the end of a run does. -/
theorem endRun_from (s : State) : SettledFrom s (endRun s) := settled_from s _ (endRun_cases s)

/-- R50, R60: what a run does by itself. -/
theorem goOn_from (s : State) : SettledFrom s (goOn s) := by
  unfold goOn
  split
  · exact .refl s
  · split
    · exact .of_run s _
    · split
      · exact .refl s
      · exact endRun_from s

/-- With no run in progress nothing goes on. -/
@[simp] theorem goOn_of_no_run {s : State} (h : s.comp.run = none) : goOn s = s := by simp [goOn, h]

/-- The clock of a tick. -/
@[simp] theorem tick_now (s : State) : (tick s).now = s.now + 1 := by simp [tick]

end Sys2Proof.Machine
end

