-- ==== Sys2Proof/Tests/Slice0.lean ====
section
/-! SUPPORT. The author's own tests: a smoke test of the well-formedness checks, values that the spec works out (the
rule or the section stands beside each), one step of each kind of command on a small state, and for every statement
that has hypotheses a witness that meets them. -/

namespace Sys2Proof.Tests

open Sys2Proof.Machine

-- one theorem at a time: many small theorems at once take a thread each
set_option Elab.async false

/-! ## Small states -/

/-- A text of character codes. -/
def text (codes : List Nat) : Text := codes.map (BitVec.ofNat 8 ·)

/-- After reset, with the link of port A (a BUREAU port) and of port B (a FEEDER port) UP. -/
def base : State :=
  { State.reset with
    ports := ⟨{ defaultPort .bureau with up := true }, { defaultPort .feeder with up := true },
      defaultPort .feeder, defaultPort .feeder⟩ }

/-- The base state with a change to port A. -/
def withPortA (f : PortRec → PortRec) (s : State) : State := { s with ports := { s.ports with a := f s.ports.a } }

/-- Five data frames and an index frame. -/
def small : Layout := ⟨2, 3, 1, 24, 6000, 6000, .off⟩

/-- A free frame record. -/
def free : FrameRec := ⟨.free, .data, none, none⟩

/-- A frame that carries page 0 of document 0 of port A. -/
def carried (st : FrameState) : FrameRec := ⟨st, .data, some ⟨0, 0, .a, 1⟩, none⟩

/-- A page of 10 columns and 6 rows, 1 bit deep, at 300 dpi, in block 0. -/
def somePage : Page :=
  { owner := .a, width := 10, height := 6, depth := 1, dpi := 300, rotation := .r0, rowBytes := 2
    rowsPerBlock := 8192, rowMap := [0], received := 6, state := .complete, attached := some 0 }

/-- A one-page KEEP document of port A. -/
def someDoc : Doc :=
  { owner := .a, key := text [0x41], cls := .keep, stream := false, pages := [(0, ⟨.none, 0⟩)], state := .placed
    placed := 1, sheets := [⟨7, true⟩] }

/-- The entry of that document at frame 0. -/
def someEntry : Entry :=
  { doc := 0, owner := .a, key := text [0x41], kind := .normal, num := 1, firstPage := 1, pageCount := 1
    runs := [⟨0, 1⟩], spoiled := none, mark := none }

/-- Sheet 7, whose frame 0 stands in a state. -/
def someSheet (f : FrameRec) : SheetRec :=
  { serial := 7, layoutNo := 0, layout := small, lot := List.replicate 8 0x20#8, bank := 0, status := .opened
    reason := none, frames := [f, free, free, free, free, { free with kind := .index }], entries := [someEntry]
    revision := 1, title := .pending, titleReport := none }

/-- Sheet 7 in the stage in a sheet state, with document 0 passed in the queue of port A. -/
def onSheet (st : SheetState) (r : SheetRec) : State :=
  { base with
    comp := { base.comp with
      sheet := st, greatest := 7, cell := 7, nextSerial := 8, write := .verified, advanced := true
      firstGrant := some 0 }
    index := { base.index with current := some r }
    film := { base.film with film := .loaded, count := 5, motion := none, stage := .home }
    docs := { table := [(0, someDoc)], queues := { base.docs.queues with a := ⟨[.doc 0], 1⟩ } }
    store := { base.store with pages := [(0, somePage)], held := { base.store.held with a := 1 } } }

/-- A report under construction. -/
def someReport : Report := openReport ⟨10, 6, 64, 3527, 0, 0⟩ false

/-- The Writer with frame 0 in progress. -/
def writing (mode : WriterMode) (line : Nat) (phase : LinePhase) : Writer :=
  { idleWriter mode with
    site := some (.frame 0), line := line, lineP := some 1000, phase := phase, report := some someReport
    geometry := ⟨10, 6, 64, 3527, 0, 0⟩ }

/-- Frame 0 of sheet 7 in progress. -/
def inProgress (st : FrameState) (w : Writer) : State :=
  { onSheet .open (someSheet (carried st)) with writer := w }

/-! ## Well-formed commands: an ill-formed term for each check -/

theorem test_wellFormed_good : (Instr.selectLayout .a 255 255).wellFormed = true := by decide
theorem test_wellFormed_tag : (Instr.closeSheet .a 256).wellFormed = false := by decide
theorem test_wellFormed_kindByte : (Instr.unknownRequest .a 0 256).wellFormed = false := by decide
theorem test_wellFormed_byte : (Instr.selectLayout .a 0 256).wellFormed = false := by decide
theorem test_wellFormed_layout : (Instr.setLayout .a 0 0 1 1 1 12 65536 2000 0).wellFormed = false := by decide
theorem test_wellFormed_limits : (Instr.setLimits .a 0 1 65536 0 true).wellFormed = false := by decide
theorem test_wellFormed_group : (Instr.setCloseGroup .a 0 256).wellFormed = false := by decide
theorem test_wellFormed_serial : (Instr.setSerial .a 0 4294967296).wellFormed = false := by decide
theorem test_wellFormed_key :
    (Instr.submitDocument .a 0 (List.replicate 256 0#8) 0 true 0 []).wellFormed = false := by decide +kernel
theorem test_wellFormed_handles : (Instr.submitDocument .a 0 [] 0 true 1 [65536]).wellFormed = false := by decide
theorem test_wellFormed_submit_body :
    (Instr.submitDocument .a 0 [] 0 true 1 (List.replicate 8199 0)).wellFormed = false := by decide +kernel
theorem test_wellFormed_handle : (Instr.queryPage .a 0 65536).wellFormed = false := by decide
theorem test_wellFormed_page : (Instr.definePage .a 0 1 1 256 100 0).wellFormed = false := by decide
theorem test_wellFormed_rows : (Instr.putRows .a 0 0 65536 1 []).wellFormed = false := by decide
theorem test_wellFormed_rows_body :
    (Instr.putRows .a 0 0 0 1 (List.replicate 16395 0#8)).wellFormed = false := by decide +kernel
theorem test_wellFormed_quota : (Instr.setQuota .a 0 0 65536).wellFormed = false := by decide
theorem test_wellFormed_tone : (Instr.setToneMap .a 0 0 [1, 2, 3]).wellFormed = false := by decide
theorem test_wellFormed_tone_entry : (Instr.setToneMap .a 0 0 (List.replicate 16 256)).wellFormed = false := by decide
theorem test_wellFormed_overlay : (Instr.setOverlayMap .a 0 0 256).wellFormed = false := by decide
theorem test_wellFormed_curve : (Instr.writeCurve .a 0 0 0 1 [65536]).wellFormed = false := by decide
theorem test_wellFormed_curve_body :
    (Instr.writeCurve .a 0 0 0 1 (List.replicate 8199 0)).wellFormed = false := by decide +kernel
theorem test_wellFormed_bank : (Instr.selectCurveBank .a 0 256).wellFormed = false := by decide
theorem test_wellFormed_response : (Instr.setFilmResponse .a 0 [1]).wellFormed = false := by decide
theorem test_wellFormed_response_point :
    (Instr.setFilmResponse .a 0 (List.replicate 26 65536)).wellFormed = false := by decide
theorem test_wellFormed_writer : (Instr.setWriter .a 0 1 65536).wellFormed = false := by decide
theorem test_wellFormed_window : (Instr.setBeamWindow .a 0 256 1).wellFormed = false := by decide
theorem test_wellFormed_lot : (Instr.loadFilm .a 0 1 [] 1024).wellFormed = false := by decide
theorem test_wellFormed_film : (Instr.loadFilm .a 0 1 (List.replicate 8 0#8) 65536).wellFormed = false := by decide
theorem test_wellFormed_index : (Instr.readIndex .a 0 1 65536).wellFormed = false := by decide
theorem test_wellFormed_frame : (Instr.readFrame .a 0 1 256).wellFormed = false := by decide
theorem test_wellFormed_title : (Instr.setTitle .a 0 (List.replicate 256 0#8)).wellFormed = false := by
  decide +kernel
theorem test_wellFormed_mask : (Instr.setNoticeMask .a 0 65536).wellFormed = false := by decide
theorem test_wellFormed_power : (Instr.measurementComplete 2048).wellFormed = false := by decide

/-! ## Values that the spec works out -/

/-- R175: the check of the characters 1 to 9, the known value of this check (its polynomial, its start and its bit
order are those of R175). -/
theorem test_crc : crc (text [0x31, 0x32, 0x33, 0x34, 0x35, 0x36, 0x37, 0x38, 0x39]) = 0x29B1#16 := by decide +kernel

/-- 5, worked geometry: a printout on layout 2. -/
theorem test_geometry_printout :
    nominalPitch 200 42 = 3023 ∧ bestScale 3023 3000 2200 6900000 8200000 = some 48
      ∧ geometryAt 3023 3000 2200 6900000 8200000 48 = ⟨3000, 2200, 48, 2267, 49500, 1606300⟩ := by decide +kernel

/-- 5, worked geometry: a statement turned a quarter turn, on layout 0. -/
theorem test_geometry_turned :
    pageGeometry { somePage with width := 2400, height := 3300, rotation := .r90 } ⟨5, 12, 1, 24, 11000, 16500, .bottomLeft⟩
      = some ⟨3300, 2400, 60, 3306, 45100, 4282800⟩ := by decide +kernel

/-- 6.9: the streamed cheque front on layout 0. -/
theorem test_geometry_cheque :
    pageGeometry { somePage with width := 1600, height := 720, dpi := 200 } ⟨5, 12, 1, 24, 11000, 16500, .bottomLeft⟩
      = some ⟨1600, 720, 64, 5291, 1267200, 6345240⟩ := by decide +kernel

/-- 4.3, sizing examples: row bytes, rows per block, blocks. -/
theorem test_sizes :
    (rowBytesOf 1600 8, rowsPerBlockOf 1600 8, blocksOf 1600 720 8) = (1600, 10, 72)
      ∧ (rowBytesOf 2400 1, rowsPerBlockOf 2400 1, blocksOf 2400 3300 1) = (300, 54, 62)
      ∧ (rowBytesOf 1200 4, rowsPerBlockOf 1200 4, blocksOf 1200 800 4) = (600, 27, 30)
      ∧ (rowBytesOf 3000 2, rowsPerBlockOf 3000 2, blocksOf 3000 2200 2) = (750, 21, 105)
      ∧ (rowBytesOf 4096 8, rowsPerBlockOf 4096 8, blocksOf 4096 6144 8) = (4096, 4, 1536) := by decide +kernel

/-- 5, worked doses: density 1041 gives dose 3616, on lot 1126 it gives 3976, and 21 ticks at P × G = 196,000; a density
of 2500 saturates at a dot time of 80. -/
theorem test_doses :
    doseOf defaultResponse 1041 = 3616 ∧ lotDose 3616 1126 = 3976 ∧ rawPulse 3976 980 200 = 21
      ∧ doseOf defaultResponse 2500 = 24000 ∧ rawPulse (lotDose 24000 1126) 980 200 = 138
      ∧ limitPulse 80 138 = 78 ∧ saturates 80 138 = true := by decide +kernel

/-- 6.9, 7.5: the drift thresholds of P 1000 and 880 at limit 13 are 50 and 44; 52 and 45 exceed them, 35 does not. -/
theorem test_drift :
    driftThreshold 1000 13 = 50 ∧ driftThreshold 880 13 = 44 ∧ drifts 50 1000 948 = true ∧ drifts 44 880 835 = true
      ∧ drifts 44 880 845 = false := by decide

/-- 7.5: readings at floor index 10 and 9. -/
theorem test_judge :
    judgeBeam 10 .inWindow 835 = .inWindow ∧ judgeBeam 10 .inWindow 829 = .outLow ∧ judgeBeam 10 .outLow 846 = .outLow
      ∧ judgeBeam 10 .outLow 901 = .inWindow ∧ judgeBeam 9 .outLow 846 = .inWindow := by decide

/-- 6.5 (R125): the imprint of frame 15 of layout 0 on sheet 2,240 with key ACCT-00482133: 00002240 B04 ACCT-004821. -/
theorem test_imprint :
    imprintText 2240 ⟨5, 12, 1, 24, 11000, 16500, .bottomLeft⟩ 15
        (text [0x41, 0x43, 0x43, 0x54, 0x2D, 0x30, 0x30, 0x34, 0x38, 0x32, 0x31, 0x33, 0x33])
      = text [0x30, 0x30, 0x30, 0x30, 0x32, 0x32, 0x34, 0x30, 0x20, 0x42, 0x30, 0x34, 0x20]
        ++ text [0x41, 0x43, 0x43, 0x54, 0x2D, 0x30, 0x30, 0x34, 0x38, 0x32, 0x31] := by decide +kernel

/-- 3.9, R67: the walk of a FLOW document stops before a ninth run; an entry of eight runs goes on with the frame directly
after its last and with no other, be it one that would join two of its runs. -/
theorem test_walk :
    walkFree [2, 5, 8, 11, 14, 17, 20, 23, 26, 27, 28] 12 [] = [2, 5, 8, 11, 14, 17, 20, 23]
      ∧ flowFrames [6, 24, 25, 27] 4 [2, 5, 8, 11, 14, 17, 20, 23] = [24, 25]
      ∧ flowFrames [6, 29] 4 [2, 5, 8, 11, 14, 17, 20, 23] = []
      ∧ runsOf [2, 3, 5] = [⟨2, 2⟩, ⟨5, 1⟩] := by decide +kernel

/-- R81, R79: row 1 of a page in block 3 lies at 3 × 16,384 + 2; pixels are packed from the most significant bit. -/
theorem test_pixels :
    rowAddress { somePage with rowMap := [3] } 1 = 49154
      ∧ pixelAt somePage (writeRows somePage 0 1 [0x40#8, 0x80#8] []) 0 1 = 1
      ∧ pixelAt somePage (writeRows somePage 0 1 [0x40#8, 0x80#8] []) 0 8 = 1
      ∧ pixelAt somePage (writeRows somePage 0 1 [0x40#8, 0x80#8] []) 0 0 = 0 := by decide +kernel

/-- R175, R179: the frame of SELECT LAYOUT 2 with tag 5, but for its check. -/
theorem test_frame :
    (encode (.selectLayout .a 5 2)).map (·.take 5) = some [0x01#8, 0x05#8, 0x01#8, 0x00#8, 0x02#8] := by decide +kernel

/-! ## Witnesses: the hypotheses of each statement are met -/

/-- The state that a command leaves. -/
def after (c : Instr) (s : State) : State :=
  match exec c s with
  | .next t => t
  | _ => s

/-- The status of the last reply to a port after a command. -/
def statusAfter (p : Port) (c : Instr) (s : State) : Option Status := (lastReply (after c s) p).map (·.status)

theorem test_meets_StepTakesTheFrontCommand :
    ({ base with pending := [.grant] } : State).pending = .grant :: [] ∧ base.pending = [] ∧ base.comp.run = none := by
  decide

theorem test_meets_CommandsKeepQueueAndClock : ∃ t, exec (.badFrame .a) base = .next t := ⟨_, rfl⟩

theorem test_meets_EncodedRequestIsReceived :
    (Instr.selectLayout .a 255 3).wellFormed = true
      ∧ requestOf (.selectLayout .a 255 3) = some (.a, .selectLayout, 255, [3#8])
      ∧ (encode (.selectLayout .a 255 3)).isSome = true := by decide +kernel

theorem test_meets_PortsTestRequestsFirst :
    requestOf (.halt .a 1) = some (.a, .halt, 1, []) ∧ requestOf (.halt .b 1) = some (.b, .halt, 1, [])
      ∧ (State.reset.ports.get .a).up = false
      ∧ ((withPortA (fun r => { r with busy := some (.putRows 3) }) base).ports.get .a).up = true
      ∧ ((withPortA (fun r => { r with busy := some (.putRows 3) }) base).ports.get .a).busy ≠ none
      ∧ (base.ports.get .b).up = true ∧ (base.ports.get .b).busy = none ∧ Kind.halt.bureauOnly = true
      ∧ (base.ports.get .b).cls = .feeder := by decide

theorem test_meets_BadAndUnknownFramesAreAnswered :
    (base.ports.get .a).up = true ∧ (base.ports.get .a).busy = none ∧ 0x24 < 0x25 ∧ accepts base .a .portReset
      ∧ ((withPortA (fun r => { r with busy := some (.putRows 3) }) base).ports.get .a).busy ≠ none
      ∧ (base.ports.get .b).up = true ∧ (base.ports.get .b).busy = none ∧ Kind.halt.bureauOnly = true
      ∧ (base.ports.get .b).cls = .feeder := by
  unfold accepts; decide

theorem test_meets_LinkUpAndQuietTimer :
    (State.reset.ports.get .a).up = false ∧ accepts base .a .attentionDone
      ∧ ((withPortA (fun r => { r with quiet := some 0 }) base).ports.get .a).quiet = some 0 := by
  unfold accepts; decide

theorem test_meets_NoticesAreMaskedQueuedAndFetched :
    accepts base .a .setNoticeMask ∧ accepts base .a .fetchNotices
      ∧ ({ defaultPort .feeder with notices := List.replicate 31 .resumed } : PortRec).notices.length < 32
      ∧ 32 ≤ ({ defaultPort .feeder with notices := List.replicate 32 .resumed } : PortRec).notices.length := by
  unfold accepts; decide

/-- Document 0 stands at the cursor of port A in a state, with another behind it. -/
def atCursor (st : DocState) : State :=
  { onSheet .open (someSheet free) with
    docs := { table := [(0, { someDoc with state := st }), (1, { someDoc with state := .queued })]
              queues := { base.docs.queues with a := ⟨[.doc 0, .doc 1], 0⟩ } } }

theorem test_meets_PortResetClearsThePort :
    ∀ x ∈ [(DocState.placing, true), (DocState.queued, false)],
      ((atCursor x.1).ports.get .a).up = true ∧ accepts (atCursor x.1) .a .portReset
        ∧ (atCursor x.1).docs.queues.get .a = ⟨[.doc 0, .doc 1], 0⟩ ∧ (atCursor x.1).comp.sheet ≠ .idle
        ∧ ((atCursor x.1).docs.queues.get .a).items[0]? = some (.doc 0)
        ∧ (docOf (atCursor x.1) 0).any (fun d : Doc => d.state == DocState.placing) = x.2
        ∧ tableGet (atCursor x.1).store.pages 0 = some somePage ∧ somePage.attached ≠ none := by
  unfold accepts; decide

theorem test_meets_QueriesChangeNothing :
    (∀ k ∈ [Kind.readStatus, .queryDocument, .queryPage, .readIndex, .readFrame],
        accepts (onSheet .open (someSheet (carried .ready))) .a k ∧ accepts (onSheet .open (someSheet (carried .ready))) .b k)
      ∧ ((onSheet .open (someSheet (carried .ready))).ports.get .a).cls = .bureau
      ∧ ((onSheet .open (someSheet (carried .ready))).ports.get .b).cls = .feeder
      ∧ docOf (onSheet .open (someSheet (carried .ready))) 1 = none
      ∧ docOf (onSheet .open (someSheet (carried .ready))) 0 = some someDoc ∧ someDoc.owner ≠ .b
      ∧ tableGet (onSheet .open (someSheet (carried .ready))).store.pages 1 = none
      ∧ tableGet (onSheet .open (someSheet (carried .ready))).store.pages 0 = some somePage ∧ somePage.owner ≠ .b
      ∧ (onSheet .open (someSheet (carried .ready))).index.current = some (someSheet (carried .ready))
      ∧ (someSheet (carried .ready)).serial = 7 ∧ (onSheet .open (someSheet (carried .ready))).index.ring = []
      ∧ (someSheet (carried .ready)).frames[0]? = some (carried .ready)
      ∧ (∃ x, (carried .ready).ref = some x ∧ x.owner ≠ .b) ∧ (someSheet (carried .ready)).frames[5]? ≠ none
      ∧ (someSheet (carried .ready)).frames[6]? = none := by
  refine ⟨by unfold accepts; decide, by decide, by decide, by decide, by decide, by decide, by decide, by decide, by decide,
    by decide, by decide, by decide, by decide, ⟨_, rfl, by decide⟩, by decide, by decide⟩

theorem test_meets_QueriesChangeNothing_bodies :
    (onSheet .open (someSheet free)).comp.sheet ≠ .idle ∧ (onSheet .open (someSheet free)).comp.sheet ≠ .unloaded
      ∧ base.comp.sheet = .unloaded
      ∧ ((onSheet .open (someSheet free)).docs.queues.get .a).items[0]? = some (.doc 0)
      ∧ (∀ i ∈ (base.docs.queues.get .a).items, i ≠ Item.doc 0)
      ∧ ((((List.replicate 17 someEntry).zipIdx 1).drop (2 - 1)).filter
          (fun x => (base.ports.get .a).cls == .bureau || x.1.owner == .a)).take 16
        = ((List.replicate 17 someEntry).zipIdx 1).drop 1
      ∧ (((List.replicate 17 someEntry).zipIdx 1).drop 1).length = 16
      ∧ (someSheet free).entries[0]? = some someEntry ∧ 0 ∈ someEntry.frames ∧ (∀ e ∈ (someSheet free).entries, 1 ∉ e.frames) := by
  decide +kernel

theorem test_meets_ResetsLoadTheDefaults : base.store.writes = [] := by decide

theorem test_meets_SelectLayoutSetsTheNextSheet :
    accepts base .a .selectLayout ∧ base.comp.layouts[base.comp.nextLayout]? = some ⟨5, 12, 1, 24, 11000, 16500, .bottomLeft⟩
      ∧ (after (.selectLayout .a 1 3) base).comp.layouts[3]? = some ⟨4, 8, 1, 16, 17800, 21000, .bottomRight⟩ := by
  unfold accepts; decide

theorem test_meets_SetLayoutReplacesAnEntry :
    accepts base .a .setLayout ∧ Layout.inRange ⟨1, 2, 1, 12, 2000, 2000, .off⟩
      ∧ Layout.inRange ⟨12, 17, 4, 64, 30000, 30000, .bottomRight⟩ ∧ ¬ Layout.inRange ⟨11, 19, 1, 12, 2000, 2000, .off⟩
      ∧ ¬ Layout.inRange ⟨2, 2, 4, 12, 2000, 2000, .off⟩ ∧ imprintOfCode 2 = some .bottomRight
      ∧ imprintOfCode 3 = none := by
  unfold accepts Layout.inRange; decide

/-- The last serial has been issued. -/
def exhaustedSerials : State :=
  { base with comp := { base.comp with cell := 99999999, greatest := 99999999, nextSerial := 100000000 } }

theorem test_meets_SetSerialRaisesTheNextSerial :
    accepts base .a .setSerial ∧ base.comp.greatest < 1 ∧ SerialsRise exhaustedSerials
      ∧ accepts exhaustedSerials .a .setSerial ∧ exhaustedSerials.comp.cell = 99999999
      ∧ SerialsRise (onSheet .open (someSheet free)) := by
  refine ⟨by unfold accepts; decide, by decide, ?_, by unfold accepts; decide, by decide, ?_⟩
  · exact ⟨by decide, by decide, by decide, fun r h => (by cases h), by decide, fun x h => (by cases h)⟩
  · exact ⟨by decide, by decide, by decide, fun r h => (by cases h; decide), by decide, fun x h => (by cases h)⟩

/-- Sheet 7 is OPEN and port A's mark has been taken. -/
def markedSheet : State :=
  { onSheet .open (someSheet (carried .ready)) with
    comp := { (onSheet .open (someSheet (carried .ready))).comp with marks := ⟨true, false, false, false⟩ } }

theorem test_meets_SetCloseGroupReplacesTheGroup :
    accepts markedSheet .a .setCloseGroup ∧ (someSheet (carried .ready)).freeFrames ≠ []
      ∧ markedSheet.index.current = some (someSheet (carried .ready)) ∧ markedSheet.comp.sheet = .open
      ∧ (someSheet (carried .ready)).entries.length < 96 * (someSheet (carried .ready)).layout.index
      ∧ markedSheet.comp.firstGrant ≠ none
      ∧ ∀ q : Port, (after (.setCloseGroup .a 0 1) markedSheet).comp.group.get q = true →
          markedSheet.comp.marks.get q = true := by
  refine ⟨by unfold accepts; decide, by decide, rfl, by decide, by decide, by decide, ?_⟩
  intro q; cases q <;> decide +kernel

/-- Sheet 7 at a time, with a first grant at 0 and a completion timer from 0 if it is CLOSING. -/
def limited (st : SheetState) (now : Nat) (r : SheetRec) : State :=
  { onSheet st r with
    now := now, comp := { (onSheet st r).comp with completion := if st = .closing then some 0 else none } }

theorem test_meets_SetLimitsStoresClampedLimits :
    accepts base .a .setLimits ∧ base.comp.completion = none ∧ base.comp.sheet ≠ .open
      ∧ accepts (limited .open 3000000000 (someSheet free)) .a .setLimits
      ∧ (limited .open 0 (someSheet free)).comp.completion = none
      ∧ (limited .open 0 (someSheet free)).comp.firstGrant = some 0 ∧ (limited .open 0 (someSheet free)).comp.sheet = .open
      ∧ max 30 (min 14400 1) = 30 ∧ (limited .open 2999999999 (someSheet free)).now < 0 + 30 * 100000000
      ∧ 0 + 30 * 100000000 ≤ (limited .open 3000000000 (someSheet free)).now ∧ (someSheet free).freeFrames ≠ []
      ∧ (someSheet free).entries.length < 96 * (someSheet free).layout.index
      ∧ 96 * (someSheet free).layout.index ≤ (List.replicate 96 someEntry).length
      ∧ accepts (limited .closing 1000000000 (someSheet (carried .placed))) .a .setLimits
      ∧ (limited .closing 0 (someSheet (carried .placed))).comp.completion = some 0
      ∧ (limited .closing 999999999 (someSheet (carried .placed))).now < 0 + 10 * 100000000
      ∧ 0 + 10 * 100000000 ≤ (limited .closing 1000000000 (someSheet (carried .placed))).now := by
  unfold accepts; decide

theorem test_meets_CloseSheetClosesTheOpenSheet :
    accepts (onSheet .open (someSheet (carried .exposed))) .a .closeSheet
      ∧ (onSheet .open (someSheet (carried .exposed))).comp.sheet = .open
      ∧ (onSheet .open (someSheet (carried .exposed))).index.current = some (someSheet (carried .exposed))
      ∧ (∀ f ∈ (someSheet (carried .exposed)).frames,
          f.state ≠ .placed ∧ f.state ≠ .ready ∧ f.state ≠ .exposing ∧ f.state ≠ .paused)
      ∧ (onSheet .open (someSheet (carried .exposed))).comp.retakes = [] ∧ accepts base .a .closeSheet
      ∧ base.comp.sheet = .unloaded ∧ accepts (onSheet .closing (someSheet free)) .a .closeSheet
      ∧ (onSheet .closing (someSheet free)).comp.sheet ≠ .open := by
  unfold accepts; decide

/-- A state with a halt list and a serial write. -/
def halted (causes : List HaltCause) (w : SerialWrite) : State :=
  { onSheet .open (someSheet free) with
    comp := { (onSheet .open (someSheet free)).comp with halts := causes, write := w } }

theorem test_meets_HaltJoinsManual :
    accepts (halted [.manual] .verified) .a .halt
      ∧ (HaltCause.manual ∈ (halted [.manual] .verified).comp.halts)
      ∧ (halted [.manual] .verified).comp.halts.head? = some .manual
      ∧ accepts (halted [.beam] .verified) .a .halt ∧ HaltCause.manual ∉ (halted [.beam] .verified).comp.halts
      ∧ ((halted [.beam] .verified).comp.halts ++ [HaltCause.manual]).head? = some .beam := by
  unfold accepts; decide

theorem test_meets_ResumeActsOnTheHead :
    accepts (halted [.serial, .beam] .failed) .a .resume
      ∧ (halted [.serial, .beam] .failed).comp.halts.head? = some .serial
      ∧ (halted [.serial, .beam] .failed).comp.write = .failed ∧ accepts (halted [.manual] .verified) .a .resume
      ∧ (halted [.manual] .verified).comp.halts.head? = some .manual
      ∧ (halted [.stage] .verified).comp.halts.head? = some .stage
      ∧ (halted [.transport] .verified).comp.halts.head? = some .transport
      ∧ (halted [.serial] .verified).comp.halts.head? = some .serial
      ∧ (halted [.serial] .verified).comp.write = .verified ∧ (halted [.beam] .verified).comp.halts.head? = some .beam
      ∧ (halted [.serial] .writing).comp.halts.head? = some .serial ∧ (halted [.serial] .writing).comp.write = .writing
      ∧ (halted [.serial] .none).comp.halts.head? = some .serial ∧ (halted [.serial] .none).comp.write = .none
      ∧ (halted [] .verified).comp.halts = [] := by
  unfold accepts; decide

theorem test_meets_AbortSheetEndsTheSheet :
    ∀ st ∈ [SheetState.opening, .open, .closing, .indexing, .finishing, .idle, .unloaded],
      accepts (onSheet st (someSheet (carried .ready))) .a .abortSheet
        ∧ (onSheet st (someSheet (carried .ready))).comp.sheet = st
        ∧ (onSheet st (someSheet (carried .ready))).index.current = some (someSheet (carried .ready)) := by
  unfold accepts; decide

theorem test_meets_AbortSheetEndsTheSheet_undone :
    accepts (inProgress .exposing (writing .writing 3 .dots)) .a .abortSheet
      ∧ (inProgress .exposing (writing .writing 3 .dots)).writer.site = some (.frame 0)
      ∧ (inProgress .exposing (writing .writing 3 .dots)).writer.report = some someReport
      ∧ ReportOpen (inProgress .exposing (writing .writing 3 .dots)) ∧ (carried .exposing).state.inProgress = true
      ∧ docOf (inProgress .exposing (writing .writing 3 .dots)) 0 = some someDoc ∧ someDoc.state.isFinal = false
      ∧ (someSheet (carried .exposing)).entries.filter (fun e => e.doc == 0 && e.kind == .normal) = [someEntry]
      ∧ 0 < ((inProgress .exposing (writing .writing 3 .dots)).docs.queues.get .a).cursor
      ∧ ((inProgress .exposing (writing .writing 3 .dots)).docs.queues.get .a).items[0]? = some (.doc 0)
      ∧ ((inProgress .exposing (writing .writing 3 .dots)).docs.queues.get .a).items.head? ≠ some .mark
      ∧ someDoc.pages[0]? = some (0, ⟨.none, 0⟩) := by
  unfold accepts ReportOpen; decide

/-- The timers of sheet 7 run. -/
def timedSheet (st : SheetState) : State :=
  { onSheet st (someSheet (carried .placed)) with
    comp := { (onSheet st (someSheet (carried .placed))).comp with age := some 0, completion := some 0 } }

theorem test_meets_SheetTimersExpire :
    (timedSheet .open).comp.age = some 0 ∧ (timedSheet .open).comp.sheet = .open
      ∧ (timedSheet .closing).comp.completion = some 0 ∧ (timedSheet .closing).comp.sheet = .closing
      ∧ (timedSheet .closing).index.current = some (someSheet (carried .placed))
      ∧ (someSheet (carried .placed)).freeFrames ≠ [] ∧ (timedSheet .closing).store.writes = []
      ∧ (someSheet (carried .placed)).entries.length < 96 * (someSheet (carried .placed)).layout.index
      ∧ 96 * small.index ≤ (List.replicate 96 someEntry).length
      ∧ docOf (timedSheet .closing) 0 = some someDoc ∧ (someSheet (carried .placed)).frames[0]? = some (carried .placed)
      ∧ (carried .placed).ref = some ⟨0, 0, .a, 1⟩ := by decide

/-- A serial write is in progress, and port A's RESUME waits for it. -/
def writingSerial (st : SheetState) : State :=
  withPortA (fun r => { r with busy := some (.resumeSerial 4) })
    { onSheet st (someSheet free) with
      comp := { (onSheet st (someSheet free)).comp with write := .writing, finishDue := true, halts := [.serial] } }

theorem test_meets_SerialWriteEnds :
    (writingSerial .opening).comp.write = .writing ∧ (writingSerial .opening).comp.sheet = .opening
      ∧ (writingSerial .opening).index.current = some (someSheet free)
      ∧ (writingSerial .finishing).comp.finishDue = true ∧ (writingSerial .finishing).comp.sheet = .finishing
      ∧ ((writingSerial .opening).ports.get .a).busy = some (.resumeSerial 4) := by decide

/-- The serial write of sheet 7 runs, with its opening advance completed or not, and no finish is asked for. -/
def openingWrite (advanced : Bool) : State :=
  { writingSerial .opening with
    comp := { (writingSerial .opening).comp with finishDue := false, advanced := advanced } }

theorem test_meets_SerialWriteEnds_opening :
    ∀ b ∈ [true, false], (openingWrite b).comp.write = .writing ∧ (openingWrite b).comp.sheet = .opening
      ∧ (openingWrite b).index.current = some (someSheet free) ∧ (openingWrite b).comp.advanced = b
      ∧ (openingWrite b).comp.finishDue = false ∧ HaltCause.serial ∈ (openingWrite b).comp.halts
      ∧ ((openingWrite b).ports.get .a).awaitsWrite = true := by decide

/-- R3, R10, R23: the repeated write verifies with the advance completed: RESUME is answered, the sheet is OPEN, and every
port is told of both. -/
theorem test_serialWrite_opens :
    (after (.serialWriteComplete true) (openingWrite true)).comp.sheet = .open
      ∧ (after (.serialWriteComplete true) (openingWrite true)).ports.b.notices = [.resumed, .sheetOpened 7 0] := by
  decide

/-- A motion of the transport runs. -/
def moving (op : Operation) (s : State) : State := { s with film := { s.film with motion := some ⟨op, 0⟩ } }

theorem test_meets_OpeningAdvanceCompletes :
    motionOp (moving .opening (writingSerial .opening)) = some .opening
      ∧ (moving .opening (writingSerial .opening)).comp.write ≠ .verified
      ∧ (moving .opening (onSheet .opening (someSheet free))).comp.write = .verified
      ∧ (moving .opening (onSheet .opening (someSheet free))).index.current = some (someSheet free) := by decide

/-- R153: the opening advance of a sheet aborted in OPENING runs, and its finishing advance and cut waits. -/
def openingAborted : State :=
  let s := moving .opening (onSheet .finishing (someSheet free))
  { s with film := { s.film with queue := [.finishing], rehome := false } }

theorem test_meets_OpeningAdvanceCompletes_finishing :
    motionOp openingAborted = some .opening ∧ openingAborted.comp.sheet = .finishing
      ∧ openingAborted.film.queue = [.finishing] ∧ openingAborted.comp.halts = []
      ∧ openingAborted.film.rehome = false ∧ openingAborted.film.heldOp = none := by decide

/-- Document 0 has been exposed and sheet 7 is being finished. -/
def finishingSheet (count : Nat) : State :=
  { moving .finishing (onSheet .finishing (someSheet (carried .exposed))) with
    docs := { base.docs with table :=
      [(0, { someDoc with pages := [(0, ⟨.exposed, 0⟩)] }), (1, { someDoc with state := .queued, placed := 0 })] }
    film := { (moving .finishing base).film with count := count } }

theorem test_meets_FinishingCutFinishesTheSheet :
    motionOp (finishingSheet 1) = some .finishing ∧ (finishingSheet 1).comp.sheet = .finishing
      ∧ (finishingSheet 1).index.current = some (someSheet (carried .exposed)) ∧ (finishingSheet 0).film.count = 0
      ∧ (someSheet (carried .exposed)).status ≠ .aborted
      ∧ docOf (finishingSheet 1) 0 = some { someDoc with pages := [(0, ⟨.exposed, 0⟩)] }
      ∧ docOf (finishingSheet 1) 1 = some { someDoc with state := .queued, placed := 0 }
      ∧ (finishingSheet 1).comp.retakes = []
      ∧ ((finishingSheet 1).ports.get .a).notices.length + (finishingSheet 1).docs.table.length < 32
      ∧ (finishingSheet 1).store.writes = [] := by decide

/-- Port A has a detached page 0, port B a page 1; so many items wait and so many documents exist. -/
def filled (items docs : Nat) : State :=
  { base with
    docs := { table := (List.range docs).map fun h => (h, someDoc)
              queues := { base.docs.queues with a := ⟨List.replicate items .mark, 0⟩ } }
    store := { base.store with
      pages := [(0, { somePage with attached := none }), (1, { somePage with owner := .b }), (2, somePage)] } }

theorem test_meets_SubmitDocumentCreatesTheDocument :
    accepts (filled 127 1) .a .submitDocument ∧ tableGet (filled 0 0).store.pages 3 = none
      ∧ (∃ pg, tableGet (filled 0 0).store.pages 1 = some pg ∧ pg.owner ≠ .a)
      ∧ (∃ pg, tableGet (filled 0 0).store.pages 2 = some pg ∧ pg.attached ≠ none)
      ∧ (∃ pg, tableGet (filled 0 0).store.pages 0 = some pg ∧ pg.owner = .a ∧ pg.attached = none)
      ∧ 128 ≤ ((filled 128 0).docs.queues.get .a).items.length
      ∧ ((filled 127 1).docs.queues.get .a).items.length < 128
      ∧ docOf (filled 127 1) 1 = none ∧ (∀ g < 1, docOf (filled 127 1) g ≠ none) := by
  refine ⟨by unfold accepts; decide, by decide, ⟨_, rfl, by decide⟩, ⟨_, rfl, by decide⟩, ⟨_, rfl, by decide, by decide⟩,
    by decide +kernel, by decide +kernel, by decide, by decide⟩

/-- A table that holds the same record under every handle below a number. -/
theorem range_full {α : Type} (x : α) (n h : Nat) (hh : h < n) :
    tableGet ((List.range n).map fun k => (k, x)) h ≠ none := by
  rw [List.range_eq_range']
  suffices ∀ s, s ≤ h → h < s + n → tableGet ((List.range' s n).map fun k => (k, x)) h ≠ none from
    this 0 (Nat.zero_le h) (by omega)
  clear hh
  induction n with
  | zero => intro s h1 h2; omega
  | succ n ih =>
    intro s h1 h2
    simp only [List.range'_succ, List.map_cons, tableGet]
    split
    · simp
    · exact ih (s + 1) (by omega) (by omega)

/-- The numbers below n with 0 moved to the end. -/
theorem range_turned (n : Nat) (hn : 0 < n) : ((List.range n).drop 1 ++ [0]).Perm (List.range n) := by
  obtain ⟨m, rfl⟩ : ∃ m, n = m + 1 := ⟨n - 1, by omega⟩
  simp only [List.range_succ_eq_map, List.drop_succ_cons, List.drop_zero]
  exact List.perm_append_comm

theorem test_meets_SubmitDocument_table_full : ∀ h < 512, docOf (filled 0 512) h ≠ none :=
  fun h hh => by simpa only [docOf, filled] using range_full someDoc 512 h hh

theorem test_meets_BatchMarkJoinsTheQueue :
    accepts (filled 127 1) .a .batchMark ∧ 128 ≤ ((filled 128 0).docs.queues.get .a).items.length
      ∧ ((filled 127 0).docs.queues.get .a).cursor < ((filled 127 0).docs.queues.get .a).items.length
      ∧ ((onSheet .open (someSheet free)).docs.queues.get .a).cursor
        = ((onSheet .open (someSheet free)).docs.queues.get .a).items.length := by
  unfold accepts; decide +kernel

/-- Document 0 in a state, on sheet 7 or on none, its frame 0 as given. -/
def withDoc (d : Doc) (f : FrameRec) (cursor : Nat) : State :=
  { onSheet .open (someSheet f) with
    docs := { table := [(0, d)], queues := { base.docs.queues with a := ⟨[.doc 0], cursor⟩ } } }

theorem test_meets_CancelTakesTheDocumentBack_refused :
    accepts (withDoc someDoc (carried .exposed) 1) .a .cancelDocument
      ∧ docOf (withDoc someDoc (carried .exposed) 1) 1 = none
      ∧ docOf (withDoc someDoc (carried .exposed) 1) 0 = some someDoc
      ∧ accepts (withDoc someDoc (carried .exposed) 1) .b .cancelDocument
      ∧ ((withDoc someDoc (carried .exposed) 1).ports.get .b).cls = .feeder ∧ someDoc.owner ≠ .b
      ∧ docOf (withDoc { someDoc with state := .done } free 0) 0 = some { someDoc with state := .done }
      ∧ ({ someDoc with state := .done } : Doc).state.isFinal = true ∧ someDoc.state.isFinal = false
      ∧ (withDoc someDoc (carried .exposed) 1).index.current = some (someSheet (carried .exposed))
      ∧ (someSheet (carried .exposed)).status ≠ .aborted
      ∧ (∃ f ∈ (someSheet (carried .exposed)).frames, (∃ x, f.ref = some x ∧ x.doc = 0) ∧ f.state = .exposed) := by
  refine ⟨by unfold accepts; decide, by decide, rfl, by unfold accepts; decide, by decide, by decide, rfl, by decide,
    by decide, rfl, by decide, carried .exposed, by decide, ⟨_, rfl, rfl⟩, rfl⟩

/-- R41, situation 4: document 0 has an entry on sheet 6, which has left the stage FINISHED. -/
theorem test_meets_CancelTakesTheDocumentBack_finished :
    docOf (withDoc { someDoc with sheets := [⟨6, true⟩] } free 1) 0 = some { someDoc with sheets := [⟨6, true⟩] }
      ∧ accepts (withDoc { someDoc with sheets := [⟨6, true⟩] } free 1) .a .cancelDocument
      ∧ (withDoc { someDoc with sheets := [⟨6, true⟩] } free 1).index.current = some (someSheet free)
      ∧ (someSheet free).serial ≠ 6 := by
  unfold accepts; decide

theorem test_meets_CancelTakesTheDocumentBack_queued :
    accepts (withDoc { someDoc with state := .queued, sheets := [] } free 0) .a .cancelDocument
      ∧ docOf (withDoc { someDoc with state := .queued, sheets := [] } free 0) 0
        = some { someDoc with state := .queued, sheets := [] }
      ∧ (∀ r, (withDoc { someDoc with state := .queued, sheets := [] } free 0).index.current = some r →
          r.status = .aborted ∨ ∀ f ∈ r.frames, ∀ x, f.ref = some x → x.doc ≠ 0)
      ∧ (itemDocs ((withDoc { someDoc with state := .queued, sheets := [] } free 0).docs.queues.get .a).items).Nodup := by
  refine ⟨by unfold accepts; decide, rfl, ?_, by decide⟩
  rintro r hr
  obtain rfl : someSheet free = r := by simpa [withDoc, onSheet] using hr
  refine Or.inr fun f hf x hx => ?_
  have : f.ref = none := by
    simp only [someSheet] at hf
    fin_cases hf <;> rfl
  simp [this] at hx

/-- R26, R41: document 0 has been returned to its queue by the abort of sheet 7, which is being finished and whose frame 0
still refers to it. -/
def requeued : State :=
  { withDoc { someDoc with state := .queued, placed := 0, sheets := [] } (carried .exposed) 0 with
    comp := { (withDoc someDoc (carried .exposed) 0).comp with sheet := .finishing }
    index := { base.index with current := some { someSheet (carried .exposed) with status := .aborted } } }

theorem test_meets_CancelTakesTheDocumentBack_requeued :
    accepts requeued .a .cancelDocument
      ∧ docOf requeued 0 = some { someDoc with state := .queued, placed := 0, sheets := [] }
      ∧ requeued.index.current = some { someSheet (carried .exposed) with status := .aborted }
      ∧ (itemDocs (requeued.docs.queues.get .a).items).Nodup ∧ requeued.comp.sheet ≠ .idle := by
  unfold accepts; decide

theorem test_meets_CancelTakesTheDocumentBack_placed :
    accepts (withDoc someDoc (carried .ready) 1) .a .cancelDocument
      ∧ docOf (withDoc someDoc (carried .ready) 1) 0 = some someDoc ∧ someDoc.state = .placed
      ∧ (withDoc someDoc (carried .ready) 1).index.current = some (someSheet (carried .ready))
      ∧ (someSheet (carried .ready)).status = .opened
      ∧ (∀ y ∈ someDoc.sheets, y.serial = (someSheet (carried .ready)).serial)
      ∧ (∀ f ∈ (someSheet (carried .ready)).frames, (∃ x, f.ref = some x ∧ x.doc = 0) →
          f.kind ≠ .index ∧ (f.state = .placed ∨ f.state = .ready))
      ∧ (itemDocs ((withDoc someDoc (carried .ready) 1).docs.queues.get .a).items).Nodup
      ∧ (withDoc someDoc (carried .ready) 1).comp.sheet = .open := by
  refine ⟨by unfold accepts; decide, rfl, rfl, rfl, rfl, by decide, ?_, by decide, by decide⟩
  rintro f hf ⟨x, hx, -⟩
  simp only [someSheet] at hf
  fin_cases hf
  · exact ⟨by decide, Or.inr rfl⟩
  all_goals exact absurd hx (by simp [free])

/-- The arbiter's run considers port A, whose queue holds document 0, not yet placed. -/
def running (d : Doc) (pg : Page) (f : FrameRec) : State :=
  { onSheet .open { someSheet f with entries := [] } with
    comp := { (onSheet .open (someSheet f)).comp with run := some ⟨false, .a, 0⟩ }
    docs := { table := [(0, d)], queues := { base.docs.queues with a := ⟨[.doc 0], 0⟩ } }
    store := { base.store with pages := [(0, pg)] } }

/-- Document 0, not yet placed. -/
def newDoc (cls : DocClass) (n : Nat) : Doc :=
  { someDoc with cls := cls, pages := List.replicate n (0, ⟨.none, 0⟩), state := .queued, placed := 0, sheets := [] }

theorem test_meets_GrantPlacesTheCursorDocument :
    nextStep (running (newDoc .keep 5) somePage free) = some (.grantDoc .a 0 [0, 1, 2, 3, 4])
      ∧ docOf (running (newDoc .keep 5) somePage free) 0 = some (newDoc .keep 5)
      ∧ (running (newDoc .keep 5) somePage free).index.current = some { someSheet free with entries := [] }
      ∧ (running (newDoc .keep 5) somePage free).comp.sheet ≠ .idle ∧ (newDoc .keep 5).placed = 0
      ∧ 1 ≤ (newDoc .keep 5).pages.length ∧ small.dataFrames ≤ (someSheet free).frames.length
      ∧ nextStep (running (newDoc .flow 9) somePage free) = some (.grantDoc .a 0 [0, 1, 2, 3, 4]) := by decide +kernel

theorem test_meets_GrantPlacesTheCursorDocument_keep :
    (running (newDoc .keep 4) somePage (carried .ready)).comp.run = some ⟨false, .a, 0⟩
      ∧ (running (newDoc .keep 4) somePage (carried .ready)).comp.sheet = .open
      ∧ (running (newDoc .keep 4) somePage (carried .ready)).comp.heldFlags.get .a = false
      ∧ (someSheet (carried .ready)).freeFrames ≠ []
      ∧ ((running (newDoc .keep 4) somePage (carried .ready)).docs.queues.get .a).items[0]? = some (.doc 0)
      ∧ (newDoc .keep 4).pages.length ≤ small.dataFrames ∧ pageFits somePage small = true
      ∧ tableGet (running (newDoc .keep 4) somePage (carried .ready)).store.pages 0 = some somePage
      ∧ (∀ i < 4, (someSheet (carried .ready)).frames[1 + i]? = some free)
      ∧ (someSheet (carried .ready)).frames[0 + 0]? = some (carried .ready) ∧ (carried .ready).state ≠ .free
      ∧ 1 + 4 ≤ small.dataFrames := by decide +kernel

/-- Document 0 is a FLOW document of seven pages; one stands on frame 0, where its entry on sheet 7 has it. -/
def flowing (pg : Page) : State :=
  let s := running { newDoc .flow 7 with placed := 1, state := .placing, sheets := [⟨7, true⟩] } pg (carried .ready)
  { s with index := { s.index with current := some (someSheet (carried .ready)) } }

theorem test_meets_GrantPlacesTheCursorDocument_flow :
    flowFrames (someSheet free).freeFrames 9 [] = [0, 1, 2, 3, 4]
      ∧ (∀ i < 5, (newDoc .flow 9).pages[0 + i]? = some (0, ⟨.none, 0⟩)) ∧ pageFits somePage small = true
      ∧ nextStep (flowing somePage) = some (.grantDoc .a 0 [1, 2, 3, 4])
      ∧ ((someSheet (carried .ready)).entries.find? (fun e => e.doc == 0 && e.kind == .normal)) = some someEntry
      ∧ someEntry.frames = [0] ∧ flowFrames (someSheet (carried .ready)).freeFrames 6 [0] = [1, 2, 3, 4]
      ∧ [6, 24].Pairwise (· < ·) ∧ flowFrames [6, 24] 4 [2, 5, 8, 11, 14, 17, 20, 23] = [24]
      ∧ ¬ (runsOf [2, 5, 8, 11, 14, 17, 20, 23]).length < 8 ∧ (runsOf [0]).length < 8 := by decide +kernel

/-- A retake of page 0 waits, after one whose page is unknown. -/
def retaking (pg : Page) : State :=
  { running someDoc pg free with
    comp := { (running someDoc pg free).comp with
      run := some ⟨true, .a, 0⟩, retakes := [⟨9, 0, .a, 1, 1, 6, 3⟩, ⟨0, 0, .a, 1, 1, 6, 3⟩] } }

/-- A page that fits no frame of the small layout. -/
def widePage : Page := { somePage with width := 4096, dpi := 100 }

theorem test_meets_RetakesAreGrantedOrLost :
    (retaking somePage).comp.run = some ⟨true, .a, 0⟩
      ∧ (retaking somePage).index.current = some { someSheet free with entries := [] }
      ∧ (retaking somePage).comp.sheet = .open
      ∧ (retaking somePage).comp.retakes = [⟨9, 0, .a, 1, 1, 6, 3⟩] ++ ⟨0, 0, .a, 1, 1, 6, 3⟩ :: []
      ∧ pageComplete (retaking somePage) 9 = false ∧ (⟨0, 0, .a, 1, 1, 6, 3⟩ : Retake) ∉ [⟨9, 0, .a, 1, 1, 6, 3⟩]
      ∧ tableGet (retaking somePage).store.pages 0 = some somePage ∧ somePage.state = .complete
      ∧ docOf (retaking somePage) 0 = some someDoc ∧ (someSheet free).freeFrames.head? = some 0
      ∧ ([] : List Entry).length < 96 * small.index ∧ pageFits somePage small = true ∧ pageFits widePage small = false
      ∧ tableGet (retaking widePage).store.pages 0 = some widePage ∧ widePage.state = .complete := by decide +kernel

theorem test_meets_RejectionEndsTheCursorDocument :
    nextStep (running (newDoc .keep 6) somePage free) = some (.rejectDoc .a 0 .tooLong 0)
      ∧ docOf (running (newDoc .keep 6) somePage free) 0 = some (newDoc .keep 6) ∧ (newDoc .keep 6).owner = .a
      ∧ (running (newDoc .keep 6) somePage free).index.current = some { someSheet free with entries := [] }
      ∧ (running (newDoc .keep 6) somePage free).comp.sheet = .open
      ∧ (running (newDoc .keep 6) somePage free).comp.heldFlags.get .a = false ∧ (someSheet free).freeFrames ≠ []
      ∧ (itemDocs ((running (newDoc .keep 6) somePage free).docs.queues.get .a).items).Nodup
      ∧ (running (newDoc .keep 6) somePage free).comp.run = some ⟨false, .a, 0⟩
      ∧ ((running (newDoc .keep 6) somePage free).docs.queues.get .a).items[0]? = some (.doc 0)
      ∧ small.dataFrames < (newDoc .keep 6).pages.length ∧ (newDoc .keep 5).pages.length ≤ small.dataFrames
      ∧ tableGet (running (newDoc .keep 5) widePage free).store.pages 0 = some widePage
      ∧ pageFits widePage small = false ∧ (running (newDoc .keep 6) somePage free).store.writes = []
      ∧ nextStep (flowing widePage) = some (.rejectDoc .a 0 .unfit 2)
      ∧ 0 < (flowFrames (someSheet (carried .ready)).freeFrames 6 [0]).length := by decide +kernel

/-- R66, R67: an entry of eight runs with the frame after its last not FREE, and a full index without an entry of the
document. -/
theorem test_meets_FailedTryHoldsThePort_flow :
    flowFrames [4] 3 [2, 5, 8, 11, 14, 17, 20, 23] = []
      ∧ 96 * small.index ≤ (List.replicate 96 { someEntry with doc := 1 }).length
      ∧ (∀ e ∈ List.replicate 96 { someEntry with doc := 1 }, e.doc = 0 → e.kind ≠ .normal) := by decide +kernel

theorem test_meets_FailedTryHoldsThePort :
    nextStep (running (newDoc .keep 5) somePage (carried .ready)) = some (.failTry .a)
      ∧ (running (newDoc .keep 5) somePage (carried .ready)).comp.sheet = .open
      ∧ (running (newDoc .keep 5) somePage (carried .ready)).comp.heldFlags.get .a = false
      ∧ (someSheet (carried .ready)).freeFrames ≠ []
      ∧ (running (newDoc .keep 5) somePage (carried .ready)).comp.run = some ⟨false, .a, 0⟩
      ∧ docOf (running (newDoc .keep 5) somePage (carried .ready)) 0 = some (newDoc .keep 5)
      ∧ 1 ≤ (newDoc .keep 5).pages.length ∧ (newDoc .keep 5).pages.length ≤ small.dataFrames
      ∧ tableGet (running (newDoc .keep 5) somePage (carried .ready)).store.pages 0 = some somePage
      ∧ pageFits somePage small = true
      ∧ (∀ f, f + 5 ≤ small.dataFrames →
          ∃ i < 5, ∃ fr, (someSheet (carried .ready)).frames[f + i]? = some fr ∧ fr.state ≠ .free)
      ∧ 96 * small.index ≤ (List.replicate 96 someEntry).length := by
  refine ⟨by decide +kernel, by decide, by decide, by decide, by decide, rfl, by decide, by decide, rfl,
    by decide +kernel, ?_, by decide⟩
  intro f hf
  have : f = 0 := by simp only [small, Layout.dataFrames, Layout.frames] at hf; omega
  subst this
  exact ⟨0, by decide, _, rfl, by decide⟩

/-- The run of an OPEN sheet has considered four ports without a grant; the sheet holds so many entries, port A is in the
close group and the mark set or not, and is held or not. -/
def runEnds (entries : Nat) (mark hold : Bool) : State :=
  let s := running (newDoc .keep 5) somePage (carried .ready)
  { s with
    index := { s.index with current := some { someSheet (carried .ready) with entries := List.replicate entries someEntry } }
    comp := { s.comp with
      run := some ⟨true, .a, 4⟩, retakes := [⟨9, 0, .a, 1, 1, 6, 3⟩], starveClose := true
      group := { s.comp.group with a := mark }, marks := { s.comp.marks with a := mark }
      heldFlags := { s.comp.heldFlags with a := hold } } }

theorem test_meets_FailedTryHoldsThePort_ends :
    ∀ x ∈ [(96, false, false), (1, true, true), (1, false, true), (1, false, false)],
      (runEnds x.1 x.2.1 x.2.2).pending = [] ∧ (runEnds x.1 x.2.1 x.2.2).comp.run = some ⟨true, .a, 4⟩
        ∧ (runEnds x.1 x.2.1 x.2.2).comp.sheet = .open ∧ (runEnds x.1 x.2.1 x.2.2).index.current ≠ none
        ∧ (∀ y ∈ (runEnds x.1 x.2.1 x.2.2).comp.retakes,
            tableGet (runEnds x.1 x.2.1 x.2.2).store.pages y.page = none)
        ∧ (runEnds x.1 x.2.1 x.2.2).comp.firstGrant ≠ none ∧ (runEnds x.1 x.2.1 x.2.2).comp.starveClose = true
        ∧ ((runEnds x.1 x.2.1 x.2.2).comp.group.get .a = x.2.1 ∧ (runEnds x.1 x.2.1 x.2.2).comp.marks.get .a = x.2.1)
        ∧ (runEnds x.1 x.2.1 x.2.2).comp.heldFlags.get .a = x.2.2
        ∧ (∀ q ∈ [Port.b, .c, .d], (runEnds x.1 x.2.1 x.2.2).comp.group.get q = false
            ∧ ((runEnds x.1 x.2.1 x.2.2).docs.queues.get q).items = [])
        ∧ ((runEnds x.1 x.2.1 x.2.2).docs.queues.get .a).cursor
          < ((runEnds x.1 x.2.1 x.2.2).docs.queues.get .a).items.length := by decide +kernel

/-- R12, R50: the end of a run closes the sheet FULL, BARRIER or STARVED, or leaves it OPEN. -/
theorem test_run_ends :
    [(96, false, false), (1, true, true), (1, false, true), (1, false, false)].map
        (fun x => ((tick (runEnds x.1 x.2.1 x.2.2)).comp.sheet,
          (tick (runEnds x.1 x.2.1 x.2.2)).index.current.bind (·.reason)))
      = [(.closing, some .full), (.closing, some .barrier), (.closing, some .starved), (.open, none)] := by
  decide +kernel

/-- Port A has used so much of its quota; so many blocks are free; so many page handles are in use. -/
def stored (held free handles : Nat) : State :=
  { base with store := { base.store with
      held := { base.store.held with a := held }, freeList := List.range free
      pages := (List.range handles).map fun h => (h, somePage) } }

theorem test_meets_DefinePageReservesBlocks :
    accepts (stored 511 1 1) .a .definePage ∧ rotationOfCode 3 = some .r270
      ∧ (6144 + 16384 / ((4096 * 8 + 7) / 8) - 1) / (16384 / ((4096 * 8 + 7) / 8)) = 1536
      ∧ (1024 + 16384 / ((4096 * 8 + 7) / 8) - 1) / (16384 / ((4096 * 8 + 7) / 8)) = 256
      ∧ (1 + 16384 / ((1 * 1 + 7) / 8) - 1) / (16384 / ((1 * 1 + 7) / 8)) = 1
      ∧ (stored 512 1 0).store.quota.get .a < (stored 512 1 0).store.held.get .a + 1
      ∧ (stored 511 1 1).store.held.get .a + 1 ≤ (stored 511 1 1).store.quota.get .a
      ∧ (stored 511 0 1).store.freeList.length < 1 ∧ 1 ≤ (stored 511 1 1).store.freeList.length
      ∧ tableGet (stored 511 1 1).store.pages 1 = none ∧ (∀ g < 1, tableGet (stored 511 1 1).store.pages g ≠ none) := by
  unfold accepts; decide

theorem test_meets_DefinePage_table_full : ∀ g < 1024, tableGet (stored 0 1 1024).store.pages g ≠ none :=
  fun g hg => by simpa [stored] using range_full somePage 1024 g hg

/-- Page 0 of port A receives rows: so many have come. -/
def receiving (received : Nat) (attached : Option Nat) : State :=
  { base with store := { base.store with
      pages := [(0, { somePage with received := received, state := .receiving, attached := attached }), (1, somePage)]
      held := { base.store.held with a := 1 } } }

theorem test_meets_PutRowsIsCheckedInOrder :
    accepts (receiving 4 none) .a .putRows ∧ tableGet (receiving 4 none).store.pages 2 = none
      ∧ accepts (receiving 4 none) .b .putRows
      ∧ tableGet (receiving 4 none).store.pages 0
          = some { somePage with received := 4, state := .receiving, attached := none }
      ∧ tableGet (receiving 4 none).store.pages 1 = some somePage ∧ somePage.state = .complete ∧ somePage.owner ≠ .b
      ∧ (List.replicate 4 (0 : Byte)).length = 2 * somePage.rowBytes ∧ 4 + 2 ≤ somePage.height
      ∧ somePage.height < 4 + 3 := by
  unfold accepts; decide

/-- Page 0 holds block 0, and a PUT ROWS of its last two rows is in flight. -/
def rowsInFlight : State :=
  { base with store := { base.store with
      freeList := (List.range 2048).drop 1
      pages := [(0, { somePage with received := 4, state := .receiving, attached := none })]
      held := { base.store.held with a := 1 }
      writes := [⟨.a, 9, 0, 4, 2, [1#8, 2#8, 3#8, 4#8]⟩] } }

/-- A store in which page 0 of port A holds block 0, and nothing else is used, is sound. -/
theorem blockZero_sound (s : State) (pg : Page) (hm : s.store.memory = []) (hp : s.store.pages = [(0, pg)])
    (hf : s.store.freeList = (List.range 2048).drop 1) (hb : pg.rowMap = [0]) (ho : pg.owner = .a)
    (hx : pageMapped pg = true) (hh : s.store.held = ⟨1, 0, 0, 0⟩) : StoreSound s := by
  refine ⟨by rw [hm]; decide, by rw [hp]; exact List.pairwise_singleton _ _, ?_, ?_, ?_, ?_⟩
  · rw [hp]; simp
  · rw [hf, hp]
    simp only [List.flatMap_cons, List.flatMap_nil, hb]
    exact range_turned 2048 (by decide)
  · rw [hp]; simpa using hx
  · intro p
    rw [hp, hh]
    cases p <;> simp [ho, hb, mappedBlocks, PerPort.get]

/-- The store of that state is sound. -/
theorem rowsInFlight_sound : StoreSound rowsInFlight :=
  blockZero_sound _ _ rfl rfl (by simp only [rowsInFlight]) rfl rfl (by decide) (by decide)

theorem test_meets_RowsWrittenStoresTheRows :
    StoreSound rowsInFlight
      ∧ rowsInFlight.store.writes = ⟨.a, 9, 0, 4, 2, [1#8, 2#8, 3#8, 4#8]⟩ :: []
      ∧ tableGet rowsInFlight.store.pages 0 = some { somePage with received := 4, state := .receiving, attached := none }
      ∧ [1#8, 2#8, 3#8, 4#8].length = 2 * somePage.rowBytes ∧ 4 + 2 ≤ somePage.height :=
  ⟨rowsInFlight_sound, by decide, by decide, by decide, by decide⟩

/-- Those rows arrive on a sheet: frame 0 is PLACED with their page, a retake of the page waits, and the Writer is PAUSED for
a row. -/
def rowsAwaited (st : SheetState) (row : Nat) : State :=
  { onSheet st { someSheet (carried .placed) with entries := [] } with
    store := { rowsInFlight.store with wait := some ⟨0, row⟩ }
    writer := { writing .paused row .due with site := some (.frame 1) }
    comp := { (onSheet st (someSheet free)).comp with retakes := [⟨0, 0, .a, 1, 1, 6, 3⟩] } }

/-- The store of that state is sound. -/
theorem rowsAwaited_sound (st : SheetState) (row : Nat) : StoreSound (rowsAwaited st row) :=
  blockZero_sound _ _ rfl rfl (by simp only [rowsAwaited, rowsInFlight]) rfl rfl (by decide) (by simp only [rowsAwaited]; decide)

theorem test_meets_RowsWrittenStoresTheRows_reports :
    StoreSound (rowsAwaited .open 5) ∧ StoreSound (rowsAwaited .idle 6)
      ∧ ∀ x ∈ [(SheetState.open, 5), (.closing, 6), (.idle, 6)],
        (rowsAwaited x.1 x.2).store.wait = some ⟨0, x.2⟩ ∧ (rowsAwaited x.1 x.2).writer.mode = .paused
          ∧ (rowsAwaited x.1 x.2).comp.sheet = x.1
          ∧ (rowsAwaited x.1 x.2).index.current = some { someSheet (carried .placed) with entries := [] }
          ∧ (∃ y ∈ (rowsAwaited x.1 x.2).comp.retakes, y.page = 0) ∧ (rowsAwaited x.1 x.2).beam.inFlight = none
          ∧ (someSheet (carried .placed)).freeFrames ≠ [] ∧ (rowsAwaited x.1 x.2).comp.halts = []
          ∧ (rowsAwaited x.1 x.2).comp.nextSerial ≤ 99999999 :=
  ⟨rowsAwaited_sound .open 5, rowsAwaited_sound .idle 6, by decide⟩

/-- R68, R82, R83: the frame of the page becomes READY, the Writer asks for its resume sample, the retake is next. -/
theorem test_rows_reported :
    (frameOf (after .rowsWritten (rowsAwaited .open 5)) 0).map (·.state) = some .ready
      ∧ (after .rowsWritten (rowsAwaited .open 5)).writer.sample = some .resume
      ∧ (after .rowsWritten (rowsAwaited .open 6)).writer.sample = none
      ∧ nextStep (after .rowsWritten (rowsAwaited .open 5)) = some (.grantRetake ⟨0, 0, .a, 1, 1, 6, 3⟩ 1) := by
  decide +kernel

/-- A stream document's page of 70 rows, PLACED on frame 0, has so many rows when one more is written. -/
def streaming (received : Nat) : State :=
  { onSheet .open (someSheet (carried .placed)) with
    docs := { base.docs with table := [(0, { someDoc with stream := true })] }
    store := { rowsInFlight.store with
      pages := [(0, { somePage with height := 70, received := received, state := .receiving })]
      writes := [⟨.a, 9, 0, received, 1, [1#8, 2#8]⟩] } }

/-- R69: with its row 64 the frame of a stream page becomes READY, and no earlier. -/
theorem test_meets_RowsWrittenStoresTheRows_stream :
    StoreSound (streaming 63) ∧ StoreSound (streaming 62)
      ∧ (frameOf (after .rowsWritten (streaming 63)) 0).map (·.state) = some .ready
      ∧ (frameOf (after .rowsWritten (streaming 62)) 0).map (·.state) = some .placed :=
  ⟨blockZero_sound _ _ rfl rfl (by simp only [streaming, rowsInFlight]) rfl rfl (by decide) (by decide),
    blockZero_sound _ _ rfl rfl (by simp only [streaming, rowsInFlight]) rfl rfl (by decide) (by decide),
    by decide +kernel, by decide +kernel⟩

/-- A port's page 0, of a document that stays, in a sound store. -/
def soundCursor : State :=
  { atCursor .placing with
    store := { rowsInFlight.store with pages := [(0, { somePage with attached := some 0 })], writes := [] } }

theorem test_meets_PortResetClearsThePort_pages :
    StoreSound soundCursor ∧ accepts soundCursor .a .portReset
      ∧ tableGet soundCursor.store.pages 0 = some { somePage with attached := some 0 }
      ∧ itemDocs ((soundCursor.docs.queues.get .a).items.drop 1) = [1] := by
  exact ⟨blockZero_sound _ _ rfl rfl (by simp only [soundCursor, rowsInFlight]) rfl rfl (by decide) (by decide),
    by unfold accepts; decide, rfl, rfl⟩

theorem test_meets_DropPageFreesItsBlocks :
    accepts (receiving 4 none) .a .dropPage ∧ accepts (receiving 4 none) .b .dropPage
      ∧ tableGet (receiving 4 none).store.pages 1 = some somePage ∧ somePage.attached = some 0
      ∧ (∀ w ∈ (receiving 4 none).store.writes, w.page ≠ 0) ∧ tableGet (receiving 4 none).store.pages 2 = none := by
  unfold accepts; decide

theorem test_meets_SetQuotaStoresTheQuota :
    accepts base .a .setQuota ∧ portCode .b = 1 ∧ accepts (after (.setQuota .a 1 1 0) base) .b .definePage
      ∧ exec (.setQuota .a 1 1 0) base = .next (after (.setQuota .a 1 1 0) base)
      ∧ (checkedPage 1 1 1 100 0).isSome = true ∧ blocksOf 1 1 1 ≤ 256
      ∧ min 2048 0 < (after (.setQuota .a 1 1 0) base).store.held.get .b + blocksOf 1 1 1 := by
  refine ⟨by unfold accepts; decide, rfl, by unfold accepts; decide +kernel, rfl, by decide, by decide, by decide +kernel⟩

theorem test_meets_StagedSettingsAreReplaced :
    accepts base .a .setToneMap ∧ accepts base .b .setToneMap ∧ accepts base .a .setOverlayMap
      ∧ accepts base .a .selectCurveBank ∧ accepts base .a .setWriter ∧ toneMapSound (List.replicate 16 255)
      ∧ (base.ports.get .b).cls = .feeder ∧ portCode .d = 3 ∧ (List.replicate 15 0).length ≠ 16
      ∧ (∃ v ∈ List.replicate 16 256, 255 < v) := by
  unfold accepts toneMapSound; decide

theorem test_meets_WriteCurveReplacesEntries :
    accepts base .a .writeCurve ∧ curveSound base.dose.bank0 ∧ curveSound base.dose.bank1
      ∧ (List.replicate 64 2501).length = 64 ∧ 192 + 64 ≤ 256 ∧ ¬ (193 + 64 ≤ 256) ∧ base.comp.sheet = .unloaded
      ∧ (onSheet .open (someSheet free)).dose.sheet.bank = 0 ∧ (onSheet .open (someSheet free)).comp.sheet ≠ .idle := by
  unfold accepts curveSound; decide +kernel

theorem test_meets_FilmResponseMustNotFall :
    accepts base .a .setFilmResponse ∧ responseSound (List.replicate 26 65535)
      ∧ (List.replicate 25 7 ++ [6]).getD (24 + 1) 0 < (List.replicate 25 7 ++ [6]).getD 24 0
      ∧ 24 + 1 < (List.replicate 25 7 ++ [6]).length
      ∧ (∀ j < 24, (List.replicate 25 7 ++ [6]).getD j 0 ≤ (List.replicate 25 7 ++ [6]).getD (j + 1) 0) := by
  unfold accepts responseSound; decide +kernel

theorem test_meets_BestScaleIsTheLargestThatFits :
    bestScale 3527 1 1 3527 3527 = some 64 ∧ bestScale 3527 1 1 1763 1763 = some 32
      ∧ bestScale 3527 1 1 1762 3527 = none := by decide +kernel

theorem test_meets_FrameStartTakesTheLowestReadyFrame :
    (onSheet .open (someSheet (carried .ready))).comp.sheet = .open
      ∧ (onSheet .open (someSheet (carried .ready))).index.current = some (someSheet (carried .ready))
      ∧ (onSheet .open (someSheet (carried .ready))).writer.mode = .idle
      ∧ (onSheet .open (someSheet (carried .ready))).comp.halts = []
      ∧ (someSheet (carried .ready)).frames[0]? = some (carried .ready) ∧ (carried .ready).kind ≠ .index
      ∧ (carried .ready).ref = some ⟨0, 0, .a, 1⟩
      ∧ (∀ m < 0, ∀ g : FrameRec, (someSheet (carried .ready)).frames[m]? = some g → g.state ≠ .ready ∨ g.kind = .index) :=
  ⟨by decide, rfl, by decide, by decide, rfl, by decide, rfl, fun m h => absurd h (Nat.not_lt_zero m)⟩

/-- R92 to R95: the geometry of the page of frame 0. -/
theorem test_meets_FrameStart_geometry : PageGeometryIs somePage small ⟨10, 6, 64, 3527, 2982365, 2989419⟩ := by
  refine ⟨by decide, fun _ => ⟨rfl, rfl, by decide, by decide, by decide, by decide, ?_, by decide, by decide, by decide⟩,
    fun h => by simp [somePage] at h⟩
  intro k h1 h2
  exact absurd h1 (Nat.not_lt.mpr h2)

/-- Frame 0 of sheet 7 is READY and the transport is at rest, its stage in a position. -/
def readyAt (stage : StagePosition) : State :=
  let s := onSheet .open (someSheet (carried .ready))
  { s with film := { s.film with stage := stage, queue := [], heldOp := none, rehome := false } }

theorem test_meets_FrameStart_move :
    ∀ st ∈ [StagePosition.home, .atSite (.cell 0 0)], (readyAt st).film.motion = none ∧ (readyAt st).film.queue = []
      ∧ (readyAt st).film.heldOp = none ∧ (readyAt st).film.rehome = false ∧ (readyAt st).film.stage ≠ .lost
      ∧ (readyAt st).comp.halts = [] ∧ (readyAt st).writer.mode = .idle := by decide

/-- R119, R147: the stage moves to the site of frame 0. -/
theorem test_frameStart_moves :
    (after .frameStart (readyAt .home)).film.motion = some ⟨.stageMove (.cell 0 0) true, 0⟩
      ∧ (after .frameStart (readyAt (.atSite (.cell 0 0)))).writer.sample = some .start := by decide +kernel

/-- Sheet 7 in INDEXING: its index frame stands in a state, the title is PENDING. -/
def indexing (st : FrameState) : SheetRec :=
  { someSheet (carried .exposed) with
    status := .closed, frames := [carried .exposed, free, free, free, free, ⟨st, .index, none, none⟩] }

theorem test_meets_FrameStart_indexing :
    (onSheet .indexing (indexing .ready)).comp.sheet = .indexing
      ∧ (onSheet .indexing (indexing .ready)).writer.mode = .idle ∧ (onSheet .indexing (indexing .ready)).comp.halts = []
      ∧ (indexing .ready).frames[5]? = some ⟨.ready, .index, none, none⟩
      ∧ (∀ g ∈ (indexing .ready).frames.take 5, g.state ≠ .ready ∨ g.kind ≠ .index)
      ∧ (∀ g ∈ (indexing .exposed).frames, g.state ≠ .ready ∨ g.kind ≠ .index) ∧ (indexing .exposed).title = .pending := by
  decide

/-- R125: the imprint of frame 0 of sheet 7, whose document has the key A. -/
theorem test_frameStart_imprint :
    (after .frameStart (onSheet .open { someSheet (carried .ready) with layout := { small with imprint := .bottomRight } })).writer.imprint
      = some (text [0x30, 0x30, 0x30, 0x30, 0x30, 0x30, 0x30, 0x37, 0x20, 0x41, 0x30, 0x31, 0x20, 0x41] ++ List.replicate 10 0x20#8) := by
  decide +kernel

theorem test_meets_RetraceStartEndsTheDots :
    (inProgress .exposing (writing .writing 5 .dots)).writer.mode = .writing
      ∧ (inProgress .exposing (writing .writing 5 .dots)).writer.phase = .dots
      ∧ (inProgress .exposing (writing .writing 5 .dots)).writer.report = some someReport
      ∧ (writing .writing 5 .dots).geometry.height ≤ 5 + 1 ∧ 4 + 1 < (writing .writing 4 .dots).geometry.height := by
  decide

theorem test_meets_LineEndGoesOnOrEndsTheFrame :
    (∀ line ∈ [4, 5], (inProgress .exposing (writing .writing line .retrace)).writer.mode = .writing
        ∧ (inProgress .exposing (writing .writing line .retrace)).writer.phase = .retrace
        ∧ (inProgress .exposing (writing .writing line .retrace)).writer.sample = none
        ∧ (inProgress .exposing (writing .writing line .retrace)).writer.report = some someReport
        ∧ (inProgress .exposing (writing .writing line .retrace)).index.current = some (someSheet (carried .exposing))
        ∧ (inProgress .exposing (writing .writing line .retrace)).comp.sheet ≠ .idle
        ∧ (inProgress .exposing (writing .writing line .retrace)).writer.site = some (.frame 0)
        ∧ docOf (inProgress .exposing (writing .writing line .retrace)) 0 = some someDoc
        ∧ (inProgress .exposing (writing .writing line .retrace)).beam.inFlight = none
        ∧ (inProgress .exposing (writing .writing line .retrace)).beam.waiting = [])
      ∧ (someSheet (carried .exposing)).frames[0]? = some (carried .exposing)
      ∧ (writing .writing 5 .retrace).geometry.height ≤ 5 + 1 ∧ 4 + 1 < (writing .writing 4 .retrace).geometry.height
      ∧ pageMapped somePage = true ∧ missingRow somePage 5 = none ∧ somePage.rotation = .r0
      ∧ pageMapped { somePage with received := 5, state := .receiving } = true := by decide

/-- The Writer is at the end of a site of sheet 7 in INDEXING. -/
def endingSite (site : Site) (r : SheetRec) : State :=
  { onSheet .indexing r with writer := { writing .writing 5 .retrace with site := some site } }

theorem test_meets_LineEnd_indexing :
    (endingSite .title (indexing .exposed)).comp.sheet = .indexing
      ∧ (endingSite .title (indexing .exposed)).writer.site = some .title
      ∧ (endingSite .title (indexing .exposed)).writer.geometry.height ≤ 5 + 1
      ∧ (∀ g ∈ ({ indexing .exposed with title := .exposed } : SheetRec).frames,
          g.kind = .index → g.state = .exposed ∨ g.state = .spoiled)
      ∧ (endingSite (.frame 5) (indexing .exposing)).writer.site = some (.frame 5)
      ∧ (indexing .exposing).frames[5]? = some ⟨.exposing, .index, none, none⟩
      ∧ ({ indexing .exposing with title := .spoiled } : SheetRec).title ≠ .pending
      ∧ (indexing .exposing).title = .pending := by decide

/-- The settings of a state on sheet 7 are in their ranges. -/
theorem onSheet_settings (s : State) (hc : s.comp = (onSheet .open (someSheet free)).comp) (hd : s.dose = base.dose)
    (hb : s.beam.floorIndex = 10 ∧ s.beam.drift = 13) (hf : s.film = (onSheet .open (someSheet free)).film)
    (hi : s.index.current = some (someSheet (carried .exposing)) ∨ s.index.current = some (someSheet (carried .paused)))
    (hr : s.index.ring = []) (ht : s.index.template = []) : SettingsInRange s := by
  refine ⟨by rw [hc]; decide, ?_, ?_, ?_, by rw [hd]; decide, by rw [hd]; decide, ?_, ?_, ?_, ?_, by rw [hb.1, hb.2]; decide,
    by rw [hf]; decide, by rw [ht]; decide⟩
  · rw [hc]
    refine ⟨by decide, ?_, by decide⟩
    show ∀ l ∈ defaultLayouts, l.inRange
    unfold Layout.inRange; decide
  · rintro r (h | h)
    · rcases hi with hi | hi <;> rw [hi] at h <;> cases h <;> unfold Layout.inRange <;> decide
    · rw [hr] at h; cases h
  · rw [hd]; intro p; cases p <;> (unfold toneMapSound; decide +kernel)
  · rw [hd]; unfold curveSound; decide +kernel
  · rw [hd]; unfold responseSound; decide +kernel
  · rw [hd]; unfold toneMapSound; decide +kernel
  · rw [hd]; unfold responseSound; decide +kernel

theorem test_meets_LineEnd_pulses :
    SettingsInRange (inProgress .exposing (writing .writing 4 .retrace))
      ∧ (inProgress .exposing (writing .writing 4 .retrace)).writer.lineP = some 1000
      ∧ tableGet (inProgress .exposing (writing .writing 4 .retrace)).store.pages 0 = some somePage
      ∧ somePage.depth = 1 :=
  ⟨onSheet_settings _ rfl rfl ⟨rfl, rfl⟩ rfl (Or.inl rfl) rfl rfl, rfl, rfl, rfl⟩

/-- R99 to R105 at P 1000 and G 200: a white pixel has tone 255, density 1300, dose 5540 and 28 ticks; a black one density
100, dose 150 and, from 1 tick, 2. The line is written row 5, whose bytes stand at 10 and 11 of block 0. -/
theorem test_line_pulses :
    (after .lineEnd { inProgress .exposing (writing .writing 4 .retrace) with
        store := { (onSheet .open (someSheet free)).store with memory := [(10, 0x80#8)] } }).writer.pulses
      = 28 :: List.replicate 9 2 := by decide +kernel

/-- Frame 0 is PAUSED. -/
def pausedFrame : State := inProgress .paused { writing .paused 4 .due with pause := some ⟨0, 10⟩ }

theorem test_meets_PauseExpirySpoilsTheFrame :
    pausedFrame.writer.mode = .paused ∧ pausedFrame.writer.pause = some ⟨0, 10⟩
      ∧ pausedFrame.writer.site = some (.frame 0) ∧ pausedFrame.writer.report = some someReport
      ∧ (someSheet (carried .paused)).frames[0]? = some (carried .paused) ∧ docOf pausedFrame 0 = some someDoc
      ∧ someDoc.pages[1 - 1]? = some (0, ⟨.none, 0⟩) ∧ pausedFrame.comp.sheet ≠ .idle := by decide

theorem test_meets_BeamRequestsMeasureAndSet :
    accepts base .a .measureBeam ∧ accepts base .a .setBeamWindow ∧ base.beam.inFlight = none
      ∧ base.writer.mode ≠ .writing
      ∧ ({ base.beam with inFlight := some 0, serving := [.writer] } : BeamUnit).inFlight ≠ none := by
  unfold accepts; decide

/-- A measurement for port A is in flight. -/
def measuring : State :=
  { withPortA (fun r => { r with busy := some (.measureBeam 4) }) base with
    beam := { base.beam with inFlight := some 0, serving := [.port .a], waiting := [.port .b] } }

theorem test_meets_MeasurementAnswersItsRequesters :
    measuring.beam.inFlight = some 0 ∧ measuring.beam.serving.Nodup
      ∧ (∀ q ∈ measuring.beam.serving, ∃ p tag, q = .port p ∧ (measuring.ports.get p).busy = some (.measureBeam tag))
      ∧ measuring.writer.mode ≠ .writing ∧ writerMapped measuring = true ∧ measuring.beam.waiting ≠ [] := by
  refine ⟨by decide, by decide, ?_, by decide, by decide, by decide⟩
  intro q hq
  have : q = .port .a := by simpa [measuring] using hq
  exact ⟨.a, 4, this, by decide⟩

/-- A measurement for the RESUME of port A is in flight, with BEAM and MANUAL in the halt list. -/
def resuming : State :=
  { withPortA (fun r => { r with busy := some (.resumeBeam 4) }) (halted [.beam, .manual] .verified) with
    writer := idleWriter .held, beam := { base.beam with inFlight := some 0, serving := [.port .a] } }

theorem test_meets_MeasurementAnswersItsRequesters_resume :
    resuming.beam.inFlight = some 0 ∧ resuming.beam.serving = [.port .a]
      ∧ (resuming.ports.get .a).busy = some (.resumeBeam 4) ∧ resuming.writer.mode ≠ .writing
      ∧ writerMapped resuming = true ∧ HaltCause.beam ∈ resuming.comp.halts
      ∧ judgeBeam resuming.beam.floorIndex resuming.beam.state 1536 = .inWindow
      ∧ judgeBeam resuming.beam.floorIndex resuming.beam.state 1537 ≠ .inWindow := by decide

/-- One measurement is in flight for the Writer, port A's MEASURE BEAM and port B's RESUME. -/
def shared (mode : WriterMode) (phase : LinePhase) (served : List Requester) : State :=
  let s := inProgress .exposing { writing mode 2 phase with sample := some .retrace }
  { s with
    ports := { s.ports with
      a := { s.ports.a with busy := some (.measureBeam 4) }, b := { s.ports.b with busy := some (.resumeBeam 5) } }
    beam := { s.beam with inFlight := some 0, serving := served } }

theorem test_meets_MeasurementAnswersItsRequesters_shared :
    ∀ served ∈ [[Requester.writer, .port .a, .port .b], [.port .a, .port .b]],
      (shared .writing .retrace served).beam.inFlight = some 0 ∧ (shared .writing .retrace served).beam.serving.Nodup
        ∧ writerMapped (shared .writing .retrace served) = true
        ∧ (shared .writing .retrace served).index.current = some (someSheet (carried .exposing))
        ∧ ((shared .writing .retrace served).ports.get .a).busy = some (.measureBeam 4)
        ∧ ((shared .writing .retrace served).ports.get .b).busy = some (.resumeBeam 5)
        ∧ (shared .writing .retrace served).writer.sample = some .retrace
        ∧ (shared .writing .retrace served).writer.mode = .writing
        ∧ (shared .writing .due served).writer.phase = .due ∧ (shared .writing .due served).beam.waiting = []
        ∧ (shared .writing .due served).writer.site = some (.frame 0) ∧ missingRow somePage 2 = none
        ∧ HaltCause.beam ∉ (shared .held .due [.port .b]).comp.halts
        ∧ (shared .held .due [.port .b]).beam.serving = [.port .b]
        ∧ ((shared .held .due [.port .b]).ports.get .b).busy = some (.resumeBeam 5) := by decide

/-- R137, R145: one reading answers the Writer and both ports; a line that waited for it begins. -/
theorem test_shared :
    (after (.measurementComplete 1000) (shared .writing .retrace [.writer, .port .a, .port .b])).writer.lineP = some 1000
      ∧ statusAfter .b (.measurementComplete 1000) (shared .writing .retrace [.writer, .port .a, .port .b]) = some .ok
      ∧ (after (.measurementComplete 1000) (shared .writing .due [.port .a])).writer.phase = .dots := by decide +kernel

/-- The Writer waits for a sample of a kind. -/
def sampling (k : SampleKind) (mode : WriterMode) (f : FrameRec) : State :=
  { onSheet .open (someSheet f) with
    writer := { writing mode 2 .retrace with sample := some k }
    beam := { base.beam with inFlight := some 0, serving := [.writer] } }

theorem test_meets_WriterActsOnItsSample :
    (∀ x ∈ [(SampleKind.start, WriterMode.moving, free), (.start, .moving, carried .exposing),
          (.retrace, .writing, carried .exposing), (.resume, .paused, carried .paused)],
        (sampling x.1 x.2.1 x.2.2).beam.inFlight = some 0 ∧ (sampling x.1 x.2.1 x.2.2).beam.serving = [.writer]
          ∧ (sampling x.1 x.2.1 x.2.2).beam.waiting = [] ∧ writerMapped (sampling x.1 x.2.1 x.2.2) = true
          ∧ (sampling x.1 x.2.1 x.2.2).index.current = some (someSheet x.2.2)
          ∧ (sampling x.1 x.2.1 x.2.2).writer.site = some (.frame 0) ∧ (someSheet x.2.2).frames[0]? = some x.2.2
          ∧ (sampling x.1 x.2.1 x.2.2).writer.report = some someReport ∧ (sampling x.1 x.2.1 x.2.2).comp.sheet ≠ .idle
          ∧ (sampling x.1 x.2.1 x.2.2).writer.sample = some x.1 ∧ (sampling x.1 x.2.1 x.2.2).writer.mode = x.2.1
          ∧ docOf (sampling x.1 x.2.1 x.2.2) 0 = some someDoc)
      ∧ tableGet (sampling .resume .paused (carried .paused)).store.pages 0 = some somePage
      ∧ missingRow somePage 0 = none ∧ missingRow somePage 2 = none
      ∧ judgeBeam base.beam.floorIndex base.beam.state 832 = .inWindow
      ∧ judgeBeam base.beam.floorIndex base.beam.state 1536 = .inWindow
      ∧ judgeBeam base.beam.floorIndex base.beam.state 831 ≠ .inWindow
      ∧ judgeBeam base.beam.floorIndex base.beam.state 1537 ≠ .inWindow := by decide

theorem test_meets_WriterActsOnItsSample_pulses :
    SettingsInRange (sampling .start .moving (carried .exposing)) ∧ SettingsInRange (sampling .resume .paused (carried .paused))
      ∧ somePage.depth = 1 :=
  ⟨onSheet_settings _ rfl rfl ⟨rfl, rfl⟩ rfl (Or.inl rfl) rfl rfl,
    onSheet_settings _ rfl rfl ⟨rfl, rfl⟩ rfl (Or.inr rfl) rfl rfl, rfl⟩

/-- The Writer waits for a sample at a site of sheet 7 in INDEXING. -/
def samplingSite (k : SampleKind) (site : Site) (r : SheetRec) : State :=
  { endingSite site r with
    writer := { (endingSite site r).writer with sample := some k }
    beam := { base.beam with inFlight := some 0, serving := [.writer] } }

theorem test_meets_WriterActsOnItsSample_indexing :
    ∀ k ∈ [SampleKind.start, .retrace, .resume], ∀ x ∈ [(Site.frame 5, indexing .exposing), (.title, indexing .exposed)],
      (samplingSite k x.1 x.2).beam.inFlight = some 0 ∧ (samplingSite k x.1 x.2).beam.serving = [.writer]
        ∧ (samplingSite k x.1 x.2).beam.waiting = [] ∧ (samplingSite k x.1 x.2).index.current = some x.2
        ∧ (samplingSite k x.1 x.2).writer.report = some someReport ∧ (samplingSite k x.1 x.2).comp.sheet = .indexing
        ∧ (samplingSite k x.1 x.2).writer.sample = some k ∧ (samplingSite k x.1 x.2).writer.site = some x.1
        ∧ x.2.title = .pending ∧ (indexing .exposing).frames[5]? = some ⟨.exposing, .index, none, none⟩
        ∧ judgeBeam base.beam.floorIndex base.beam.state 831 ≠ .inWindow
        ∧ (∀ g ∈ ({ indexing .exposed with title := .spoiled } : SheetRec).frames,
            g.kind = .index → g.state = .exposed ∨ g.state = .spoiled) := by decide

/-- The Writer waits for a sample at the title, in a mode. -/
def titleSample (k : SampleKind) (mode : WriterMode) : State :=
  { samplingSite k .title (indexing .exposed) with
    writer := { (samplingSite k .title (indexing .exposed)).writer with mode := mode } }

theorem test_meets_WriterActsOnItsSample_title :
    ∀ x ∈ [(SampleKind.start, WriterMode.moving), (.retrace, .writing)],
      (titleSample x.1 x.2).beam.inFlight = some 0 ∧ (titleSample x.1 x.2).beam.serving = [.writer]
        ∧ (titleSample x.1 x.2).beam.waiting = [] ∧ (titleSample x.1 x.2).index.current = some (indexing .exposed)
        ∧ (titleSample x.1 x.2).writer.report = some someReport ∧ (titleSample x.1 x.2).comp.sheet = .indexing
        ∧ (titleSample x.1 x.2).writer.site = some .title ∧ (indexing .exposed).title = .pending
        ∧ (titleSample x.1 x.2).writer.sample = some x.1 ∧ (titleSample x.1 x.2).writer.mode = x.2
        ∧ judgeBeam (titleSample x.1 x.2).beam.floorIndex (titleSample x.1 x.2).beam.state 832 = .inWindow := by decide

/-- R120, R131, R132: the start of an index frame is undone; a title spoiled last lets the sheet pass to FINISHING. -/
theorem test_sample_indexing :
    (frameOf (after (.measurementComplete 831) (samplingSite .start (.frame 5) (indexing .exposing))) 5).map (·.state)
        = some .ready
      ∧ (after (.measurementComplete 831) (samplingSite .retrace .title (indexing .exposed))).comp.sheet = .finishing := by
  decide +kernel

/-- The sheet state IDLE, with film. -/
def idleFilm : State :=
  { onSheet .idle (someSheet free) with index := base.index, comp := { base.comp with sheet := .idle } }

theorem test_meets_FilmIsLoadedAndUnloaded :
    accepts base .a .loadFilm ∧ base.comp.sheet = .unloaded ∧ base.film.film = .empty ∧ accepts idleFilm .a .loadFilm
      ∧ idleFilm.comp.sheet = .idle ∧ accepts (onSheet .open (someSheet free)) .a .loadFilm
      ∧ (onSheet .open (someSheet free)).comp.sheet ≠ .idle ∧ accepts idleFilm .a .unloadFilm
      ∧ (text [0x41, 0x42, 0x43, 0x44, 0x45, 0x46, 0x47, 0x1F]).length = 8 := by
  unfold accepts; decide

theorem test_meets_MotionsComplete :
    motionOp (moving .leaderIn base) = some .leaderIn ∧ motionOp (moving .leaderOut base) = some .leaderOut
      ∧ motionOp (moving (.stageMove .title false) base) = some (.stageMove .title false)
      ∧ motionOp (moving (.stageMove .title true) (sampling .start .moving free)) = some (.stageMove .title true)
      ∧ (sampling .start .moving free).writer.mode = .moving ∧ motionOp base = some .homing
      ∧ (moving (.stageMove .title true) (inProgress .exposing (writing .moving 0 .due))).beam.inFlight = none := by
  decide

/-- The leader-in advance runs, a document waits at the cursor of port A, and eleven sheets of film are left. -/
def loadingFilm : State :=
  moving .leaderIn
    { base with
      film := { base.film with count := 11, film := .loading }
      docs := { table := [(0, { someDoc with state := .queued, placed := 0, sheets := [] })]
                queues := { base.docs.queues with a := ⟨[.doc 0], 0⟩ } } }

theorem test_meets_MotionsComplete_opening :
    motionOp loadingFilm = some .leaderIn ∧ loadingFilm.comp.halts = []
      ∧ (loadingFilm.docs.queues.get .a).items[(loadingFilm.docs.queues.get .a).cursor]? = some (.doc 0)
      ∧ loadingFilm.comp.layouts[loadingFilm.comp.nextLayout]? = some ⟨5, 12, 1, 24, 11000, 16500, .bottomLeft⟩
      ∧ loadingFilm.comp.nextSerial ≤ 99999999 ∧ loadingFilm.film.count = 11 := by decide

/-- The same with a retake in place of the document. -/
def loadingRetake : State :=
  { loadingFilm with
    docs := base.docs, store := (onSheet .idle (someSheet free)).store
    comp := { loadingFilm.comp with retakes := [⟨0, 0, .a, 1, 1, 6, 3⟩] } }

/-- The same with the serials exhausted. -/
def loadingExhausted (mark : Bool) : State :=
  { loadingFilm with comp := { loadingFilm.comp with nextSerial := 100000000, exhausted := mark } }

theorem test_meets_MotionsComplete_others :
    motionOp loadingRetake = some .leaderIn ∧ loadingRetake.comp.halts = []
      ∧ (∃ x ∈ loadingRetake.comp.retakes, tableGet loadingRetake.store.pages x.page = some somePage)
      ∧ somePage.state = .complete
      ∧ (∀ mark ∈ [true, false], motionOp (loadingExhausted mark) = some .leaderIn
          ∧ (loadingExhausted mark).comp.halts = [] ∧ 99999999 < (loadingExhausted mark).comp.nextSerial
          ∧ (loadingExhausted mark).comp.exhausted = mark
          ∧ ((loadingExhausted mark).docs.queues.get .a).items[0]? = some (.doc 0)
          ∧ ((loadingExhausted mark).docs.queues.get .a).cursor = 0)
      ∧ (sampling .start .moving free).beam.inFlight ≠ none := by decide

/-- R10: with the serials exhausted SERIAL joins the halt list and no film is used. -/
theorem test_exhausted :
    (after .leaderInAdvanceComplete (loadingExhausted false)).comp.halts = [.serial]
      ∧ (after .leaderInAdvanceComplete (loadingExhausted false)).film.count = 11 := by decide

theorem test_meets_TransportFaultsHalt :
    ((moving .homing base).writer.site ≠ none → (moving .homing base).index.current ≠ none)
      ∧ (moving .homing base).film.motion = some ⟨.homing, 0⟩ ∧ Operation.homing.isFilm = false
      ∧ Operation.opening.isFilm = true ∧ (moving .opening (onSheet .opening (someSheet free))).comp.sheet = .opening
      ∧ (moving .opening (onSheet .opening (someSheet free))).film.motion = some ⟨.opening, 0⟩
      ∧ ({ base.film with gateDue := true } : Transport).gateDue = true := by decide

theorem test_meets_TransportFaults_site :
    (inProgress .exposing (writing .writing 3 .dots)).writer.site = some (.frame 0)
      ∧ (inProgress .exposing (writing .writing 3 .dots)).writer.report = some someReport
      ∧ (inProgress .exposing (writing .writing 3 .dots)).index.current = some (someSheet (carried .exposing))
      ∧ (someSheet (carried .exposing)).frames[0]? = some (carried .exposing) ∧ (carried .exposing).kind ≠ .index
      ∧ (carried .exposing).ref = some ⟨0, 0, .a, 1⟩
      ∧ docOf (inProgress .exposing (writing .writing 3 .dots)) 0 = some someDoc
      ∧ (endingSite .title (indexing .exposed)).comp.sheet = .indexing
      ∧ (endingSite .title (indexing .exposed)).index.current ≠ none
      ∧ Operation.isFilm .finishing = true ∧ (onSheet .finishing (someSheet free)).comp.sheet ≠ .opening := by decide

theorem test_meets_SetTitleStoresTheTemplate :
    accepts base .a .setTitle ∧ (List.replicate 32 (0x41#8 : Byte)).length ≤ 32
      ∧ 32 < (List.replicate 33 (0x41#8 : Byte)).length
      ∧ (onSheet .closing (someSheet free)).index.current = some (someSheet free) := by
  unfold accepts; decide

/-- R168, R169: line 2 of the index page of sheet 7: the entry of document 0, whose frame A01 is EXPOSED. -/
theorem test_index_page :
    ((enterIndexing (someSheet (carried .exposed)) (onSheet .closing (someSheet (carried .exposed)))).index.rendered.bind
        fun x => (x.pages[0]?).bind (·[2]?))
      = some (text [0x41] ++ List.replicate 24 0x20#8 ++ text [0x41, 0x30, 0x31, 0x20, 0x20, 0x20, 0x31, 0x20, 0x45, 0x20]
          ++ text [0x50, 0x30, 0x31] ++ List.replicate 38 0x20#8) := by decide +kernel

/-- The base state, in which a command waits that leaves it as it is. -/
def waiting : State := { base with pending := [.grant] }

theorem test_meets_StepsKeepTheStoreSound :
    StoreSound { rowsInFlight with pending := [.grant] }
      ∧ (StoreSound waiting ∧ BlockMapAgrees waiting) ∧ ∃ t, step waiting = .next t := by
  refine ⟨⟨rowsInFlight_sound.1, rowsInFlight_sound.2, rowsInFlight_sound.3, rowsInFlight_sound.4,
    rowsInFlight_sound.5, rowsInFlight_sound.6⟩, ⟨⟨by decide, by decide, by decide, ?_, by decide, ?_⟩, ?_⟩, _, rfl⟩
  · have hf : waiting.store.freeList = List.range 2048 := by
      simp only [waiting, base, State.reset, State.afterReset, defaultStore, blockCount]
    have hp : waiting.store.pages.flatMap (·.2.rowMap) = [] := rfl
    rw [hf, hp, List.append_nil]
  · intro p; cases p <;> decide
  · refine ⟨List.length_replicate, fun b hb => ?_, fun x hx => (by cases hx)⟩
    have hm : waiting.store.blockMap = List.replicate 2048 none := by
      simp only [waiting, base, State.reset, State.afterReset, defaultStore, blockCount]
    have hf : waiting.store.freeList = List.range 2048 := by
      simp only [waiting, base, State.reset, State.afterReset, defaultStore, blockCount]
    rw [hf] at hb
    rw [hm]
    exact List.getElem?_replicate_of_lt (List.mem_range.mp hb)

theorem test_meets_StepsKeepTheQueuesSound :
    QueuesSound { onSheet .open (someSheet (carried .ready)) with pending := [.grant] } := by
  refine ⟨?_, ?_, ?_, ?_⟩
  · intro p; cases p <;> decide
  · intro p; cases p <;> decide
  · intro p h hh
    have : p = .a ∧ h = 0 := by
      cases p <;> simp [onSheet, base, PerPort.get, itemDocs, State.reset, State.afterReset, defaultDocs, everyPort] at hh
      simp [hh]
    obtain ⟨rfl, rfl⟩ := this
    exact ⟨someDoc, rfl, rfl, rfl⟩
  · intro p h hh
    have : p = .a ∧ h = 0 := by
      cases p <;> simp [onSheet, base, PerPort.get, itemDocs, State.reset, State.afterReset, defaultDocs, everyPort] at hh
      simp [hh]
    obtain ⟨rfl, rfl⟩ := this
    exact ⟨someDoc, rfl, rfl⟩

theorem test_meets_StepsKeepTheBounds :
    WithinBounds { onSheet .open (someSheet (carried .ready)) with pending := [.grant] }
      ∧ EntriesFit { onSheet .open (someSheet (carried .ready)) with pending := [.grant] } := by
  refine ⟨⟨?_, ?_, by decide, ?_, by decide, by decide, by decide⟩, ?_⟩
  · intro p; cases p <;> decide
  · intro p; cases p <;> decide
  · intro p; cases p <;> decide
  · intro r h
    obtain h | h := h
    · cases h; decide
    · cases h

theorem test_meets_StepsKeepTheSerialsRising :
    SerialsRise { onSheet .open (someSheet (carried .exposed)) with pending := [.grant] } :=
  ⟨by decide, by decide, by decide, fun r h => (by cases h; decide), by decide, fun x h => (by cases h)⟩

theorem test_meets_StepsKeepSettingsAndPulsesInRange : SettingsInRange waiting ∧ PulsesInSlot waiting := by
  refine ⟨⟨by decide, ⟨by decide, ?_, by decide⟩, ?_, ?_, by decide, by decide, ?_, ?_, ?_, ?_, by decide, by decide,
    by decide⟩, fun w h => (by cases h)⟩
  · show ∀ l ∈ defaultLayouts, l.inRange
    unfold Layout.inRange; decide
  · rintro r (h | h) <;> cases h
  · intro p; cases p <;> (unfold toneMapSound; decide +kernel)
  · unfold curveSound; decide +kernel
  · unfold responseSound; decide +kernel
  · unfold toneMapSound; decide +kernel
  · unfold responseSound; decide +kernel

/-- The state of an OPEN sheet whose frame 0 is EXPOSED agrees with itself. -/
theorem exposedSheet_agrees : PhaseSound { onSheet .open (someSheet (carried .exposed)) with pending := [.grant] } := by
  refine ⟨by decide, ?_, by decide, fun op h => (by cases h), ?_, fun _ => rfl, trivial⟩
  · exact ⟨by decide, by decide⟩
  · intro n f hf hp
    have h : f.state.inProgress = false := by
      have hm := List.mem_of_getElem? hf
      simp only [onSheet, someSheet, currentFrames] at hm
      fin_cases hm <;> rfl
    simp [h] at hp

theorem test_meets_StepsKeepThePhasesInAgreement :
    PhaseSound { onSheet .open (someSheet (carried .exposed)) with pending := [.grant] } := exposedSheet_agrees

theorem test_meets_StepsKeepThePhasesInAgreement_report :
    ReportOpen { inProgress .exposing (writing .writing 3 .dots) with pending := [.retraceStart] }
      ∧ ∃ t, step { inProgress .exposing (writing .writing 3 .dots) with pending := [.retraceStart] } = .next t :=
  ⟨by unfold ReportOpen; decide, _, rfl⟩

theorem test_meets_SoundStoresNeverStop : StoreSound { rowsInFlight with pending := [.rowsWritten] } :=
  ⟨rowsInFlight_sound.1, rowsInFlight_sound.2, rowsInFlight_sound.3, rowsInFlight_sound.4, rowsInFlight_sound.5,
    rowsInFlight_sound.6⟩

theorem test_meets_OutcomesOfFramesAreFinal :
    PhaseSound { onSheet .open (someSheet (carried .exposed)) with pending := [.grant] }
      ∧ (∃ t, step { onSheet .open (someSheet (carried .exposed)) with pending := [.grant] } = .next t)
      ∧ (someSheet (carried .exposed)).frames[0]? = some (carried .exposed)
      ∧ (carried .exposed).state.isOutcome = true ∧ (carried .exposed).kind ≠ .index :=
  ⟨exposedSheet_agrees, ⟨_, rfl⟩, rfl, rfl, by decide⟩

/-- The state of a sheet in INDEXING whose index frame is EXPOSED agrees with itself. -/
theorem indexedSheet_agrees : PhaseSound { onSheet .indexing (indexing .exposed) with pending := [.grant] } := by
  refine ⟨by decide, ?_, by decide, fun op h => (by cases h), ?_, fun _ => rfl, trivial⟩
  · exact ⟨by decide, by decide⟩
  · intro n f hf hp
    have h : f.state.inProgress = false := by
      have hm := List.mem_of_getElem? hf
      simp only [onSheet, indexing, currentFrames] at hm
      fin_cases hm <;> rfl
    simp [h] at hp

theorem test_meets_OutcomesOfFramesAreFinal_index :
    PhaseSound { onSheet .indexing (indexing .exposed) with pending := [.grant] }
      ∧ SerialsRise { onSheet .indexing (indexing .exposed) with pending := [.grant] }
      ∧ (∃ t, step { onSheet .indexing (indexing .exposed) with pending := [.grant] } = .next t)
      ∧ (indexing .exposed).frames[5]? = some ⟨.exposed, .index, none, none⟩ ∧ FrameState.exposed.isOutcome = true :=
  ⟨indexedSheet_agrees,
    ⟨by decide, by decide, by decide, fun r h => (by cases h; decide), by decide, fun x h => (by cases h)⟩, ⟨_, rfl⟩, rfl, rfl⟩

theorem test_meets_SerialsAreNotReused :
    SerialsRise { onSheet .open (someSheet (carried .exposed)) with pending := [.grant] }
      ∧ ∃ t, step { onSheet .open (someSheet (carried .exposed)) with pending := [.grant] } = .next t :=
  ⟨test_meets_StepsKeepTheSerialsRising, _, rfl⟩

/-! ## One step of each command on a small state -/

/-- The body of the last reply to a port after a command. -/
def bodyAfter (p : Port) (c : Instr) (s : State) : Option (List Byte) := (lastReply (after c s) p).map (·.body)

/-- R1: the layouts are the defaults again, the notice mask enables all, the cell keeps its value. -/
theorem test_powerOn :
    (after (.powerOn ⟨.bureau, .feeder, .feeder, .feeder⟩) (onSheet .open (someSheet free))).comp.sheet = .unloaded
      ∧ (after (.powerOn ⟨.bureau, .feeder, .feeder, .feeder⟩) (onSheet .open (someSheet free))).comp.cell = 7 := by
  decide

theorem test_deviceReset :
    (after (.deviceReset (everyPort .bureau)) (onSheet .open (someSheet free))).comp.nextSerial = 8
      ∧ (after (.deviceReset (everyPort .bureau)) (onSheet .open (someSheet free))).index.current = none := by decide

theorem test_linkUp : ((after (.linkUp .c) base).ports.get .c).up = true := by decide

theorem test_linkDown : ((after (.linkDown .a) base).ports.get .a).up = false := by decide

/-- R176: kind byte 0x80, tag 0. -/
theorem test_badFrame : lastReply (after (.badFrame .a) base) .a = some ⟨0x80, 0, .badFrame, []⟩ := by decide

theorem test_unknownRequest : statusAfter .a (.unknownRequest .a 3 0x40) base = some .unknownRequest := by decide

/-- R176: a frame whose body has not the form of its kind takes tests 2 and 4, and is then BAD_VALUE (log entry 22). -/
theorem test_unknownRequest_body :
    statusAfter .a (.unknownRequest .a 3 0x04) base = some .badValue
      ∧ statusAfter .b (.unknownRequest .b 3 0x04) base = some .notPermitted := by decide

/-- R177: a FEEDER port may not select a layout. -/
theorem test_selectLayout :
    bodyAfter .a (.selectLayout .a 1 3) base = some [3#8]
      ∧ statusAfter .b (.selectLayout .b 1 3) base = some .notPermitted := by decide

/-- R6: 12 × 17 frames with 4 index frames: 200 data frames, 384 entries. -/
theorem test_setLayout :
    bodyAfter .a (.setLayout .a 1 2 12 17 4 64 30000 2000 2) base = some [200#8, 0x80#8, 0x01#8]
      ∧ statusAfter .a (.setLayout .a 1 2 12 18 4 64 30000 2000 2) base = some .badValue := by decide

theorem test_closeSheet :
    statusAfter .a (.closeSheet .a 1) base = some .noFilm
      ∧ (after (.closeSheet .a 1) (onSheet .open (someSheet (carried .ready)))).comp.sheet = .closing := by decide

theorem test_halt :
    (after (.halt .a 1) base).comp.halts = [.manual] ∧ (after (.halt .a 1) base).writer.mode = .held
      ∧ ((after (.halt .a 1) base).ports.get .d).notices = [.halted .manual] := by decide

theorem test_resume :
    (after (.resume .a 1) (halted [.stage, .manual] .verified)).comp.halts = [.manual]
      ∧ (after (.resume .a 1) (halted [.stage, .manual] .verified)).film.rehome = true := by decide

/-- R26: the document is placed no more, its entry is VOID. -/
theorem test_abortSheet :
    (docOf (after (.abortSheet .a 1) (onSheet .open (someSheet (carried .ready)))) 0).map (·.state) = some .queued
      ∧ ((after (.abortSheet .a 1) (onSheet .open (someSheet (carried .ready)))).docs.queues.get .a).cursor = 0 := by
  decide

/-- R20: clamped to 60, 10, 30. -/
theorem test_setLimits : bodyAfter .a (.setLimits .a 1 255 0 1 false) base = some [60#8, 10#8, 0#8, 30#8, 0#8, 1#8] := by
  decide

theorem test_setCloseGroup :
    (after (.setCloseGroup .a 1 5) base).comp.group = ⟨true, false, true, false⟩
      ∧ statusAfter .a (.setCloseGroup .a 1 16) base = some .badValue := by decide

theorem test_setSerial :
    (after (.setSerial .a 1 99999999) base).comp.nextSerial = 99999999
      ∧ statusAfter .a (.setSerial .a 1 0) base = some .badValue := by decide

/-- R39: a byte outside 0x20 to 0x7E is stored as '?'. -/
theorem test_submitDocument :
    (docOf (after (.submitDocument .a 1 (text [0x41, 0x07]) 0 false 1 [0]) (filled 0 0)) 0).map (·.key)
        = some (text [0x41, 0x3F])
      ∧ statusAfter .a (.submitDocument .a 1 (text [0x41]) 0 false 2 [0, 1]) (filled 0 0) = some .notOwner := by
  decide +kernel

/-- R16, R35: a mark at the head is taken and leaves at once. -/
theorem test_batchMark :
    (after (.batchMark .b 1) base).comp.pendingMarks.get .b = true
      ∧ ((after (.batchMark .b 1) base).docs.queues.get .b).items = [] := by decide

theorem test_cancelDocument :
    statusAfter .a (.cancelDocument .a 1 0) (withDoc someDoc (carried .exposed) 1) = some .tooLate
      ∧ frameOf (after (.cancelDocument .a 1 0) (withDoc someDoc (carried .ready) 1)) 0 = some free := by decide

theorem test_queryDocument :
    statusAfter .b (.queryDocument .b 1 0) (onSheet .open (someSheet free)) = some .notOwner := by decide

theorem test_definePage :
    ((after (.definePage .a 1 1600 720 8 200 0) base).store.pages.map (·.2.rowMap.length)) = [72]
      ∧ statusAfter .a (.definePage .a 1 4096 6144 8 200 0) base = some .tooLarge := by decide +kernel

theorem test_putRows :
    ((after (.putRows .a 1 0 4 2 [1#8, 2#8, 3#8, 4#8]) (receiving 4 none)).ports.get .a).busy = some (.putRows 1)
      ∧ statusAfter .a (.putRows .a 1 0 3 1 [1#8, 2#8]) (receiving 4 none) = some .outOfOrder := by decide

theorem test_queryPage : statusAfter .b (.queryPage .b 1 0) (receiving 4 none) = some .notOwner := by decide

theorem test_dropPage :
    (after (.dropPage .a 1 0) (receiving 4 none)).store.held.get .a = 0
      ∧ statusAfter .a (.dropPage .a 1 1) (receiving 4 none) = some .inUse := by decide +kernel

theorem test_setQuota : bodyAfter .a (.setQuota .a 1 2 65535) base = some [2#8, 0#8, 8#8, 0#8, 0#8] := by decide

theorem test_setToneMap :
    statusAfter .b (.setToneMap .b 1 0 (List.replicate 16 9)) base = some .notOwner
      ∧ (after (.setToneMap .b 1 1 (List.replicate 16 9)) base).dose.tones.get .b = List.replicate 16 9 := by decide

theorem test_setOverlayMap : (after (.setOverlayMap .a 1 7 9) base).dose.cellTone = 9 := by decide

/-- R110: an entry above 2500 is stored as 2500. -/
theorem test_writeCurve :
    (after (.writeCurve .a 1 1 255 1 [2501]) base).dose.bank1[255]? = some 2500
      ∧ statusAfter .a (.writeCurve .a 1 0 0 1 [1]) (onSheet .open (someSheet free)) = some .bankActive := by
  decide +kernel

theorem test_selectCurveBank : bodyAfter .a (.selectCurveBank .a 1 1) (onSheet .open (someSheet free)) = some [1#8, 1#8, 0#8] := by
  decide +kernel

/-- R112: the first place at which the table falls. -/
theorem test_setFilmResponse :
    bodyAfter .a (.setFilmResponse .a 1 ([1, 2, 1, 0] ++ List.replicate 22 9)) base = some [2#8] := by decide

theorem test_setWriter : statusAfter .a (.setWriter .a 1 1023 15) base = some .badValue := by decide

theorem test_measureBeam : (after (.measureBeam .a 1) base).beam.serving = [.port .a] := by decide

/-- R139, R143: floor 992, return floor 1008, drift limit 64. -/
theorem test_setBeamWindow :
    bodyAfter .a (.setBeamWindow .a 1 16 200) base = some [15#8, 0xE0#8, 0x03#8, 0xF0#8, 0x03#8, 64#8] := by decide

theorem test_loadFilm :
    (after (.loadFilm .a 1 0 (List.replicate 8 0x1F#8) 9999) base).film.count = 1
      ∧ (after (.loadFilm .a 1 0 (List.replicate 8 0x1F#8) 9999) base).film.factor = 2047
      ∧ (after (.loadFilm .a 1 0 (List.replicate 8 0x1F#8) 9999) base).film.queue = [.leaderIn] := by decide

theorem test_unloadFilm :
    (after (.unloadFilm .a 1) idleFilm).film.film = .unloading ∧ statusAfter .a (.unloadFilm .a 1) base = some .noFilm := by
  decide

theorem test_readIndex : statusAfter .a (.readIndex .a 1 7 0) (onSheet .open (someSheet free)) = some .badValue := by
  decide

theorem test_readFrame :
    statusAfter .b (.readFrame .b 1 7 0) (onSheet .open (someSheet (carried .ready))) = some .notOwner
      ∧ statusAfter .b (.readFrame .b 1 7 6) (onSheet .open (someSheet (carried .ready))) = some .badValue := by decide

theorem test_setTitle : bodyAfter .a (.setTitle .a 1 (text [0x41, 0x7F])) base = some (text [2, 0x41, 0x3F]) := by decide

theorem test_fetchNotices :
    bodyAfter .a (.fetchNotices .a 1) (withPortA (fun r => { r with notices := [.resumed], overrun := true }) base)
      = some [1#8, 1#8, 0#8, 9#8, 0#8] := by decide

theorem test_setNoticeMask : bodyAfter .a (.setNoticeMask .a 1 65535) base = some [0xFF#8, 0x03#8] := by decide

theorem test_attentionDone : ((after (.attentionDone .a 1) base).ports.get .a).quiet = some 0 := by decide

theorem test_readStatus : statusAfter .b (.readStatus .b 1) base = some .ok := by decide

theorem test_portReset : statusAfter .a (.portReset .a 1) (receiving 4 none) = some .ok
    ∧ (after (.portReset .a 1) (receiving 4 none)).store.pages.map (·.1) = [1] := by decide +kernel

theorem test_ageTimerExpiry : (after .ageTimerExpiry (timedSheet .open)).comp.sheet = .closing := by decide

theorem test_completionTimerExpiry :
    (frameOf (after .completionTimerExpiry (timedSheet .closing)) 0).map (·.state) = some .void := by decide

theorem test_pauseTimerExpiry :
    (frameOf (after .pauseTimerExpiry pausedFrame) 0).map (·.state) = some .spoiled
      ∧ (after .pauseTimerExpiry pausedFrame).comp.retakes.length = 1 := by decide

theorem test_quietTimerExpiry :
    ((after (.quietTimerExpiry .a) (after (.attentionDone .a 1) base)).ports.get .a).quiet = none
      ∧ (after (.quietTimerExpiry .a) (after (.attentionDone .a 1) base)).now = 2000 := by decide

theorem test_operationTimeout :
    (after .operationTimeout base).film.stage = .lost ∧ (after .operationTimeout base).comp.halts = [.stage]
      ∧ (after .operationTimeout base).now = 40000000 := by decide

theorem test_serialWriteComplete :
    (after (.serialWriteComplete true) (writingSerial .opening)).comp.sheet = .open
      ∧ (after (.serialWriteComplete false) (writingSerial .opening)).comp.write = .failed := by decide

theorem test_openingAdvanceComplete :
    (after .openingAdvanceComplete (moving .opening (onSheet .opening (someSheet free)))).comp.sheet = .open
      ∧ (after .openingAdvanceComplete (moving .opening (onSheet .opening (someSheet free)))).film.clamped = true := by
  decide

theorem test_finishingCutComplete :
    (after .finishingCutComplete (finishingSheet 0)).index.ring.map (·.status) = [.finished]
      ∧ docOf (after .finishingCutComplete (finishingSheet 0)) 0 = none := by decide

theorem test_leaderInAdvanceComplete :
    (after .leaderInAdvanceComplete (moving .leaderIn base)).film.film = .loaded
      ∧ (after .leaderInAdvanceComplete (moving .leaderIn base)).comp.sheet = .idle := by decide

theorem test_leaderOutAdvanceComplete :
    (after .leaderOutAdvanceComplete (moving .leaderOut base)).film.film = .empty := by decide

theorem test_stageArrival :
    (after .stageArrival (moving (.stageMove .title true) (inProgress .exposing (writing .moving 0 .due)))).writer.sample
      = some .start := by decide

theorem test_homingComplete : (after .homingComplete base).film.stage = .home := by decide

/-- R136, R142: 1000 is 0x3E8, IN_WINDOW; floor index 10, floor 832 (0x340), drift limit 13. -/
theorem test_measurementComplete :
    bodyAfter .a (.measurementComplete 1000) measuring = some [0xE8#8, 0x03#8, 1#8, 10#8, 0x40#8, 0x03#8, 13#8]
      ∧ (after (.measurementComplete 1000) (sampling .start .moving (carried .exposing))).writer.mode = .writing
      ∧ (after (.measurementComplete 831) (sampling .retrace .writing (carried .exposing))).comp.halts = [.beam] := by
  decide +kernel

theorem test_lineEnd :
    (frameOf (after .lineEnd (inProgress .exposing (writing .writing 5 .retrace))) 0).map (·.state) = some .exposed
      ∧ (after .lineEnd (inProgress .exposing (writing .writing 3 .retrace))).writer.line = 4 := by decide +kernel

theorem test_positionLoss :
    (after .positionLoss (inProgress .exposing (writing .writing 3 .dots))).film.stage = .lost
      ∧ (frameOf (after .positionLoss (inProgress .exposing (writing .writing 3 .dots))) 0).map (·.state)
        = some .spoiled := by decide

theorem test_gateRelease :
    (after .gateRelease { base with film := { base.film with gateDue := true, clamped := true } }).comp.halts
      = [.transport] := by decide

theorem test_frameStart :
    (after .frameStart (onSheet .open (someSheet (carried .ready)))).writer.site = some (.frame 0)
      ∧ motionOp (after .frameStart (onSheet .open (someSheet (carried .ready)))) = some (.stageMove (.cell 0 0) true) := by
  decide +kernel

theorem test_grant :
    (docOf (after .grant (running (newDoc .flow 9) somePage free)) 0).map (fun d => (d.state, d.placed))
        = some (.placing, 5)
      ∧ (after .grant (running (newDoc .flow 9) somePage free)).comp.heldFlags.get .a = true := by decide +kernel

/-- R50, 3.8, 3.9: between the steps of a run other events may come: after the grant of the last free frame the sheet is still
OPEN and its run in progress, and closes FULL when no event comes first. -/
theorem test_grant_rests :
    (after .grant (running (newDoc .keep 4) somePage (carried .ready))).comp.sheet = .open
      ∧ (tick (after .grant (running (newDoc .keep 4) somePage (carried .ready)))).index.current.map (·.reason)
        = some (some .full)
      ∧ (after .grant (running (newDoc .flow 2) somePage free)).comp.run = some ⟨false, .b, 0⟩ := by decide +kernel

theorem test_rejection :
    docOf (after .rejection (running (newDoc .keep 6) somePage free)) 0 = none
      ∧ ((after .rejection (running (newDoc .keep 6) somePage free)).ports.get .a).notices
        = [.rejected 0 .tooLong 0, .docFinal 0 .rejected (some .tooLong) 0 0] := by decide +kernel

theorem test_retakeUnfit :
    ((docOf (after .retakeUnfit (retaking widePage)) 0).map fun d => d.pages.map (·.2.outcome)) = some [.lost] := by
  decide +kernel

theorem test_tryFailure :
    (after .tryFailure (running (newDoc .keep 5) somePage (carried .ready))).comp.heldFlags.get .a = true := by
  decide +kernel

theorem test_retraceStart :
    (after .retraceStart (inProgress .exposing (writing .writing 3 .dots))).writer.sample = some .retrace
      ∧ (after .retraceStart (inProgress .exposing (writing .writing 3 .dots))).now = 800 := by decide

theorem test_rowsWritten :
    (after .rowsWritten rowsInFlight).store.memory = [(8, 1#8), (9, 2#8), (10, 3#8), (11, 4#8)]
      ∧ bodyAfter .a .rowsWritten rowsInFlight = some [6#8, 0#8, 1#8] := by decide +kernel

end Sys2Proof.Tests
end

/-! ## The port queues: what the invariant reads, and what the queue operations keep of it -/

namespace Sys2Proof.Machine.Documents

/-! ### The documents named by items -/

@[simp] theorem itemDocs_nil : itemDocs [] = [] := rfl

@[simp] theorem itemDocs_doc (h : Nat) (l : List Item) : itemDocs (.doc h :: l) = h :: itemDocs l := rfl

@[simp] theorem itemDocs_mark (l : List Item) : itemDocs (.mark :: l) = itemDocs l := rfl

@[simp] theorem itemDocs_append (l m : List Item) : itemDocs (l ++ m) = itemDocs l ++ itemDocs m :=
  List.filterMap_append

@[simp] theorem mem_itemDocs {h : Nat} {l : List Item} : h ∈ itemDocs l ↔ .doc h ∈ l := by
  induction l with
  | nil => simp
  | cons i l ih => cases i <;> simp [ih]

theorem itemDocs_sublist {l m : List Item} (h : l.Sublist m) : (itemDocs l).Sublist (itemDocs m) := h.filterMap _

/-- A list taken apart at one of its items. -/
theorem items_split {l : List Item} {i : Nat} {x : Item} (hx : l[i]? = some x) :
    l = l.take i ++ x :: l.drop (i + 1) := by
  obtain ⟨hi, rfl⟩ := List.getElem?_eq_some_iff.mp hx
  simp

/-- A document that stands once stands neither before nor behind its place. -/
theorem notMem_around {l : List Item} {i h : Nat} (hn : (itemDocs l).Nodup) (hi : l[i]? = some (.doc h)) :
    h ∉ itemDocs (l.take i) ∧ h ∉ itemDocs (l.drop (i + 1)) := by
  have hs := congrArg itemDocs (items_split hi)
  rw [itemDocs_append, itemDocs_doc] at hs
  rw [hs, List.nodup_middle, List.nodup_cons, List.mem_append, not_or] at hn
  exact hn.1

/-- With its one item gone a document stands no more in a queue. -/
theorem notMem_eraseIdx {l : List Item} {i h : Nat} (hn : (itemDocs l).Nodup) (hi : l[i]? = some (.doc h)) :
    h ∉ itemDocs (l.eraseIdx i) := by
  rw [List.eraseIdx_eq_take_drop_succ, itemDocs_append, List.mem_append, not_or]
  exact notMem_around hn hi

/-- The item that a search for a document finds. -/
theorem findIdx_doc {l : List Item} {i h : Nat} (hf : l.findIdx? (· == .doc h) = some i) : l[i]? = some (.doc h) := by
  obtain ⟨hi, hx, -⟩ := List.findIdx?_eq_some_iff_getElem.mp hf
  rw [List.getElem?_eq_getElem hi, eq_of_beq hx]

theorem findIdx_doc_none {l : List Item} {h : Nat} (hf : l.findIdx? (· == .doc h) = none) : h ∉ itemDocs l := by
  rw [List.findIdx?_eq_none_iff] at hf
  intro hm
  simpa using hf _ (mem_itemDocs.mp hm)

/-! ### One port queue -/

/-- R33, R35: a queue is in order under a test for the documents that may stand in it and one for those that may be
passed. -/
structure QueueOk (live placed : Nat → Prop) (q : Queue) : Prop where
  cursor : q.cursor ≤ q.items.length
  once   : (itemDocs q.items).Nodup
  live   : ∀ h ∈ itemDocs q.items, live h
  placed : ∀ h ∈ itemDocs (q.items.take q.cursor), placed h

variable {live live' placed placed' : Nat → Prop} {q : Queue}

theorem QueueOk.mono (ok : QueueOk live placed q) (hl : ∀ h ∈ itemDocs q.items, live h → live' h)
    (hp : ∀ h ∈ itemDocs (q.items.take q.cursor), placed h → placed' h) : QueueOk live' placed' q :=
  ⟨ok.cursor, ok.once, fun h m => hl h m (ok.live h m), fun h m => hp h m (ok.placed h m)⟩

/-- R34: the cursor moves over an item that may be passed. -/
theorem QueueOk.move (ok : QueueOk live placed q) {i : Item} (hi : q.cursorItem = some i)
    (hp : ∀ h, i = .doc h → placed h) : QueueOk live placed { q with cursor := q.cursor + 1 } := by
  obtain ⟨hc, hx⟩ := List.getElem?_eq_some_iff.mp (show q.items[q.cursor]? = some i from hi)
  refine ⟨hc, ok.once, ok.live, fun h m => ?_⟩
  simp only [List.take_add_one, List.getElem?_eq_getElem hc, hx, Option.toList_some, itemDocs_append,
    List.mem_append] at m
  rcases m with m | m
  · exact ok.placed h m
  · exact hp h (by simpa [eq_comm] using m)

/-- R36: the cursor moves back. -/
theorem QueueOk.moveBack (ok : QueueOk live placed q) {i : Nat} (hi : i ≤ q.cursor) :
    QueueOk live placed { q with cursor := i } :=
  ⟨hi.trans ok.cursor, ok.once, ok.live, fun h m => ok.placed h
    ((itemDocs_sublist (List.take_sublist_take_left hi)).subset m)⟩

/-- R33: an item joins the end. -/
theorem QueueOk.append (ok : QueueOk live placed q) (i : Item)
    (hi : ∀ h, i = .doc h → live h ∧ h ∉ itemDocs q.items) :
    QueueOk live placed { q with items := q.items ++ [i] } := by
  have hc := ok.cursor
  refine ⟨by simp only [List.length_append]; omega, ?_, ?_, ?_⟩
  · cases i with
    | mark => simpa using ok.once
    | doc h => simpa [List.nodup_append, ok.once] using fun a ha e => (hi h rfl).2 (by simpa [← e] using ha)
  · intro h m
    rw [itemDocs_append, List.mem_append] at m
    rcases m with m | m
    · exact ok.live h m
    · exact (hi h (by simpa [eq_comm] using m)).1
  · intro h m
    rw [List.take_append_of_le_length hc] at m
    exact ok.placed h m

/-- R46: the items from a place at or behind the cursor on leave. -/
theorem QueueOk.take (ok : QueueOk live placed q) {n : Nat} (hn : q.cursor ≤ n) :
    QueueOk live placed { q with items := q.items.take n } := by
  have hc := ok.cursor
  have hs := itemDocs_sublist (List.take_sublist n q.items)
  refine ⟨by simp only [List.length_take]; omega, hs.nodup ok.once, fun h m => ok.live h (hs.subset m), fun h m => ?_⟩
  rw [List.take_take, Nat.min_eq_left hn] at m
  exact ok.placed h m

/-- The items passed once one has left: all of them, or one less. -/
theorem take_eraseIdx_sublist (l : List Item) (i c : Nat) :
    ((l.eraseIdx i).take (if i < c then c - 1 else c)).Sublist (l.take c) := by
  split
  · next h =>
    obtain ⟨c, rfl⟩ : ∃ d, c = d + 1 := ⟨c - 1, by omega⟩
    have he : (l.eraseIdx i).take c = (l.take (c + 1)).eraseIdx i := List.ext_getElem (by grind) (by grind)
    rw [Nat.add_sub_cancel, he]
    exact List.eraseIdx_sublist _ _
  · next h => rw [List.take_eraseIdx_eq_take_of_le _ _ _ (by omega)]

/-- R35: the one item of a document leaves. -/
theorem QueueOk.erase (ok : QueueOk live placed q) {i h : Nat} (hi : q.items[i]? = some (.doc h)) :
    QueueOk (fun g => live g ∧ g ≠ h) (fun g => placed g ∧ g ≠ h)
      ⟨q.items.eraseIdx i, if i < q.cursor then q.cursor - 1 else q.cursor⟩ := by
  have hc := ok.cursor
  have hl : i < q.items.length := (List.getElem?_eq_some_iff.mp hi).1
  have hs := itemDocs_sublist (List.eraseIdx_sublist q.items i)
  have hne : ∀ g ∈ itemDocs (q.items.eraseIdx i), g ≠ h := fun g m e => notMem_eraseIdx ok.once hi (e ▸ m)
  refine ⟨?_, hs.nodup ok.once, fun g m => ⟨ok.live g (hs.subset m), hne g m⟩, fun g m => ⟨?_, ?_⟩⟩
  · simp only [List.length_eraseIdx_of_lt hl]
    split <;> omega
  · exact ok.placed g ((itemDocs_sublist (take_eraseIdx_sublist _ _ _)).subset m)
  · exact hne g ((itemDocs_sublist (List.take_sublist _ _)).subset m)

/-- R35: only MARK items leave the head. -/
theorem trimMarks_docs : ∀ (l : List Item) (n : Nat),
    itemDocs (trimMarks l n).items = itemDocs l
      ∧ itemDocs ((trimMarks l n).items.take (trimMarks l n).cursor) = itemDocs (l.take n)
      ∧ (n ≤ l.length → (trimMarks l n).cursor ≤ (trimMarks l n).items.length)
  | .mark :: l, n + 1 => by
    obtain ⟨hi, ht, hc⟩ := trimMarks_docs l n
    refine ⟨hi, ht, fun h => hc (by simpa using h)⟩
  | .mark :: _, 0 => ⟨rfl, rfl, id⟩
  | .doc _ :: _, _ => ⟨rfl, rfl, id⟩
  | [], _ => ⟨rfl, rfl, id⟩

theorem QueueOk.trim (ok : QueueOk live placed q) : QueueOk live placed (trimMarks q.items q.cursor) := by
  obtain ⟨hi, ht, hc⟩ := trimMarks_docs q.items q.cursor
  exact ⟨hc ok.cursor, hi ▸ ok.once, fun h m => ok.live h (hi ▸ m), fun h m => ok.placed h (ht ▸ m)⟩

end Sys2Proof.Machine.Documents

namespace Sys2Proof.Machine.Documents

/-! ### The queues of the part -/

/-- The document under a handle of a table belongs to a port and is not final. -/
def Live (t : Table Doc) (p : Port) (h : Nat) : Prop :=
  ∃ d, tableGet t h = some d ∧ d.owner = p ∧ d.state.isFinal = false

/-- The document under a handle of a table is fully placed. -/
def Placed (t : Table Doc) (h : Nat) : Prop := ∃ d, tableGet t h = some d ∧ d.state = .placed

theorem queuesSound_iff {s : State} :
    QueuesSound s ↔ ∀ p, QueueOk (Live s.docs.table p) (Placed s.docs.table) (s.docs.queues.get p) :=
  ⟨fun h p => ⟨h.cursor p, h.once p, h.owned p, h.passed p⟩,
    fun h => ⟨fun p => (h p).cursor, fun p => (h p).once, fun p => (h p).live, fun p => (h p).placed⟩⟩

/-- Whose a document is and in which state: all that the invariant reads of a record. -/
def standing (t : Table Doc) (h : Nat) : Option (Port × DocState) := (tableGet t h).map fun d => (d.owner, d.state)

theorem live_iff {t : Table Doc} {p : Port} {h : Nat} :
    Live t p h ↔ ∃ st, standing t h = some (p, st) ∧ st.isFinal = false := by
  simp only [Live, standing, Option.map_eq_some_iff, Prod.mk.injEq]
  constructor
  · rintro ⟨d, hd, rfl, hf⟩
    exact ⟨_, ⟨d, hd, rfl, rfl⟩, hf⟩
  · rintro ⟨_, ⟨d, hd, ho, rfl⟩, hf⟩
    exact ⟨d, hd, ho, hf⟩

theorem placed_iff {t : Table Doc} {h : Nat} : Placed t h ↔ ∃ p, standing t h = some (p, .placed) := by
  simp only [Placed, standing, Option.map_eq_some_iff, Prod.mk.injEq]
  constructor
  · rintro ⟨d, hd, hs⟩
    exact ⟨_, d, hd, rfl, hs⟩
  · rintro ⟨_, d, hd, -, hs⟩
    exact ⟨d, hd, hs⟩

/-- A change of a record that keeps the owner and the state keeps every standing. -/
@[simp] theorem standing_modify {f : Doc → Doc} (hf : ∀ d, (f d).owner = d.owner ∧ (f d).state = d.state) (t : Table Doc)
    (h : Nat) : standing (tableModify f t h) = standing t := by
  funext g
  rw [standing, standing, tableGet_modify]
  split
  · rw [Option.map_map]
    congr 1
    funext d
    simp [(hf d).1, (hf d).2]
  · rfl

/-- The queues, and whose each document is and in which state, are as before. -/
structure SameStanding (s t : State) : Prop where
  queues : t.docs.queues = s.docs.queues
  docs   : standing t.docs.table = standing s.docs.table

theorem SameStanding.of_docs {s t : State} (h : t.docs = s.docs) : SameStanding s t := ⟨by rw [h], by rw [h]⟩

theorem SameStanding.trans {s t u : State} (h : SameStanding s t) (k : SameStanding t u) : SameStanding s u :=
  ⟨k.queues.trans h.queues, k.docs.trans h.docs⟩

theorem SameStanding.sound {s t : State} (h : SameStanding s t) (hs : QueuesSound s) : QueuesSound t := by
  rw [queuesSound_iff] at hs ⊢
  intro p
  rw [h.queues]
  exact (hs p).mono (fun g _ => by rw [live_iff, live_iff, h.docs]; exact id)
    fun g _ => by rw [placed_iff, placed_iff, h.docs]; exact id

/-- A state with the documents and queues of a sound one is sound. -/
theorem sound_of_docs {s t : State} (hs : QueuesSound s) (h : t.docs = s.docs) : QueuesSound t :=
  (SameStanding.of_docs h).sound hs

theorem sameStanding_modDoc {f : Doc → Doc} (hf : ∀ d, (f d).owner = d.owner ∧ (f d).state = d.state) (h : Nat)
    (s : State) : SameStanding s (modDoc h f s) := ⟨rfl, standing_modify hf _ _⟩

/-! ### The cursor (R34, R35) -/

theorem passable_doc {s : State} {h : Nat} : passable s (.doc h) = true ↔ Placed s.docs.table h := by
  simp only [passable, docOf, Placed]
  cases tableGet s.docs.table h <;> simp

/-- R34: what a running cursor does at an item. -/
theorem runCursor_succ (p : Port) (n : Nat) (s : State) :
    runCursor p (n + 1) s = s
      ∨ ∃ i m, (s.docs.queues.get p).cursorItem = some i ∧ passable s i = true
          ∧ m.docs = (modQueue p (fun q => { q with cursor := q.cursor + 1 }) s).docs
          ∧ runCursor p (n + 1) s = runCursor p n m := by
  rw [runCursor]
  split
  · exact .inl rfl
  · next i hi =>
    split
    · next hp =>
      cases i with
      | mark => exact .inr ⟨_, takeMark p (modQueue p (fun q => { q with cursor := q.cursor + 1 }) s), hi, hp,
          by simp, rfl⟩
      | doc h => exact .inr ⟨_, _, hi, hp, rfl, rfl⟩
    · exact .inl rfl

/-- Another port's queue is no matter of a running cursor. -/
theorem runCursor_other {p q : Port} (hq : q ≠ p) (n : Nat) (s : State) :
    (runCursor p n s).docs.queues.get q = s.docs.queues.get q := by
  induction n generalizing s with
  | zero => rfl
  | succ n ih =>
    rcases runCursor_succ p n s with he | ⟨i, m, -, -, hm, he⟩ <;> rw [he]
    rw [ih, hm]
    simp [hq]

/-- R34: a running cursor passes only what may be passed. -/
theorem runCursor_ok {live : Nat → Prop} (p : Port) (n : Nat) {s : State}
    (ok : QueueOk live (Placed s.docs.table) (s.docs.queues.get p)) :
    QueueOk live (Placed s.docs.table) ((runCursor p n s).docs.queues.get p) := by
  induction n generalizing s with
  | zero => exact ok
  | succ n ih =>
    rcases runCursor_succ p n s with he | ⟨i, m, hi, hp, hm, he⟩ <;> rw [he]
    · exact ok
    · have moved := ok.move hi fun h e => passable_doc.mp (e ▸ hp)
      have := @ih m
      rw [hm] at this
      exact this (by simpa using moved)

/-- R34: a running cursor leaves the items as they are. -/
theorem runCursor_items (p : Port) (n : Nat) (s : State) :
    ((runCursor p n s).docs.queues.get p).items = (s.docs.queues.get p).items := by
  induction n generalizing s with
  | zero => rfl
  | succ n ih =>
    rcases runCursor_succ p n s with he | ⟨i, m, -, -, hm, he⟩ <;> rw [he]
    rw [ih, hm]
    simp

theorem advanceCursor_other {p q : Port} (hq : q ≠ p) (s : State) :
    (advanceCursor p s).docs.queues.get q = s.docs.queues.get q := by
  simp [advanceCursor, hq, runCursor_other hq]

/-- R34, R35: the cursor that runs on leaves the queue in order. -/
theorem advanceCursor_ok {live : Nat → Prop} {p : Port} {s : State}
    (ok : QueueOk live (Placed s.docs.table) (s.docs.queues.get p)) :
    QueueOk live (Placed s.docs.table) ((advanceCursor p s).docs.queues.get p) := by
  simpa [advanceCursor] using (runCursor_ok p _ ok).trim

/-- R34, R35: the cursor that runs on takes no document out of its queue. -/
theorem advanceCursor_docs (p : Port) (s : State) :
    itemDocs ((advanceCursor p s).docs.queues.get p).items = itemDocs (s.docs.queues.get p).items := by
  simp only [advanceCursor, modQueue_queues, PerPort.get_set_same]
  rw [(trimMarks_docs _ _).1, runCursor_items]

/-- R34, R35: the cursor of a port runs on. -/
theorem advanceCursor_sound {p : Port} {s : State} (hs : QueuesSound s) : QueuesSound (advanceCursor p s) := by
  rw [queuesSound_iff] at hs ⊢
  intro q
  simp only [advanceCursor_keeps]
  by_cases hq : q = p
  · rw [hq]
    exact advanceCursor_ok (hs p)
  · rw [advanceCursor_other hq]
    exact hs q

/-! ### An item leaves (R32, R35) -/

/-- R35: the state once an item has left a queue from its place, before the cursor runs on. -/
def withoutItem (p : Port) (i : Nat) (s : State) : State :=
  modQueue p (fun q => ⟨q.items.eraseIdx i, if i < q.cursor then q.cursor - 1 else q.cursor⟩) s

/-- R32, R35, R62: the document stands in no place of the queue and nothing happens, or its item leaves, and the cursor
runs on. -/
theorem removeItem_cases (p : Port) (h : Nat) (s : State) :
    (h ∉ itemDocs (s.docs.queues.get p).items ∧ removeItem p h s = s)
      ∨ ∃ i m, (s.docs.queues.get p).items[i]? = some (.doc h)
          ∧ m = (if i = (s.docs.queues.get p).cursor then setHeld p false (withoutItem p i s) else withoutItem p i s)
          ∧ m.docs = (withoutItem p i s).docs ∧ removeItem p h s = advanceCursor p m := by
  unfold removeItem
  dsimp only
  split
  · next hf => exact .inl ⟨findIdx_doc_none hf, rfl⟩
  · next i hf =>
    refine .inr ⟨i, _, findIdx_doc hf, rfl, ?_, rfl⟩
    split <;> rfl

theorem removeItem_other {p q : Port} (hq : q ≠ p) (h : Nat) (s : State) :
    (removeItem p h s).docs.queues.get q = s.docs.queues.get q := by
  rcases removeItem_cases p h s with ⟨-, he⟩ | ⟨i, m, -, -, hm, he⟩ <;> rw [he]
  rw [advanceCursor_other hq, hm]
  simp [withoutItem, hq]

/-- The queue of a port whose document has left is in order, whatever has become of that document. -/
theorem removeItem_ok {live live' placed : Nat → Prop} {p : Port} {h : Nat} {s : State}
    (ok : QueueOk live placed (s.docs.queues.get p)) (hl : ∀ g, g ≠ h → live g → live' g)
    (hp : ∀ g, g ≠ h → placed g → Placed s.docs.table g) :
    QueueOk live' (Placed s.docs.table) ((removeItem p h s).docs.queues.get p) := by
  rcases removeItem_cases p h s with ⟨hn, he⟩ | ⟨i, m, hi, -, hm, he⟩ <;> rw [he]
  · have hne : ∀ g ∈ itemDocs (s.docs.queues.get p).items, g ≠ h := fun g m e => hn (e ▸ m)
    exact ok.mono (fun g m => hl g (hne g m))
      fun g m => hp g (hne g ((itemDocs_sublist (List.take_sublist _ _)).subset m))
  · have erased := (ok.erase hi).mono (live' := live') (placed' := Placed s.docs.table)
      (fun g _ ⟨hg, hne⟩ => hl g hne hg) fun g _ ⟨hg, hne⟩ => hp g hne hg
    have := @advanceCursor_ok live' p m
    rw [hm] at this
    exact this (by simpa [withoutItem] using erased)

/-- R32: the document stands no more in its queue. -/
theorem removeItem_gone {p : Port} {h : Nat} {s : State} (hn : (itemDocs (s.docs.queues.get p).items).Nodup) :
    h ∉ itemDocs ((removeItem p h s).docs.queues.get p).items := by
  rcases removeItem_cases p h s with ⟨hm, he⟩ | ⟨i, m, hi, -, hm, he⟩ <;> rw [he]
  · exact hm
  · rw [advanceCursor_docs, hm]
    simpa [withoutItem] using notMem_eraseIdx hn hi

end Sys2Proof.Machine.Documents

namespace Sys2Proof.Machine.Documents

/-! ### A record changes or goes -/

/-- The invariant reads no record of a document that stands in no queue. -/
theorem sound_of_unlisted {s t : State} {h : Nat} (hs : QueuesSound s) (hq : t.docs.queues = s.docs.queues)
    (hd : ∀ g, g ≠ h → docOf t g = docOf s g) (hu : ∀ p, h ∉ itemDocs (s.docs.queues.get p).items) :
    QueuesSound t := by
  rw [queuesSound_iff] at hs ⊢
  intro p
  have hne : ∀ g ∈ itemDocs (s.docs.queues.get p).items, g ≠ h := fun g m e => hu p (e ▸ m)
  rw [hq]
  refine (hs p).mono (fun g m ⟨d, hg, hd'⟩ => ⟨d, (hd g (hne g m)).trans hg, hd'⟩) fun g m ⟨d, hg, hd'⟩ => ?_
  exact ⟨d, (hd g (hne g ((itemDocs_sublist (List.take_sublist _ _)).subset m))).trans hg, hd'⟩

/-- A document stands in its owner's queue alone. -/
theorem owner_of_listed {s : State} (hs : QueuesSound s) {h : Nat} {d : Doc} (hd : docOf s h = some d) {p : Port}
    (hm : h ∈ itemDocs (s.docs.queues.get p).items) : d.owner = p := by
  obtain ⟨d', hd', ho, -⟩ := hs.owned p h hm
  rw [hd] at hd'
  cases hd'
  exact ho

/-- A final document stands in no queue. -/
theorem unlisted_of_final {s : State} (hs : QueuesSound s) {h : Nat} {d : Doc} (hd : docOf s h = some d)
    (hf : d.state.isFinal = true) (p : Port) : h ∉ itemDocs (s.docs.queues.get p).items := fun hm => by
  obtain ⟨d', hd', -, hn⟩ := hs.owned p h hm
  rw [hd] at hd'
  cases hd'
  rw [hf] at hn
  cases hn

/-- R28: the record that is released is gone, and no other. -/
theorem docOf_releaseDoc (h g : Nat) (s : State) : docOf (releaseDoc h s) g = if g = h then none else docOf s g := by
  unfold releaseDoc
  split
  · next hn =>
    split
    · next e => rw [e]; exact hn
    · rfl
  · simp only [docOf, dropPages_keeps, tableGet_erase]

theorem releaseDoc_sound {s : State} {h : Nat} (hs : QueuesSound s)
    (hu : ∀ p, h ∉ itemDocs (s.docs.queues.get p).items) : QueuesSound (releaseDoc h s) :=
  sound_of_unlisted hs (by simp) (fun g hg => by rw [docOf_releaseDoc, if_neg hg]) hu

/-- R28: the release test releases a final document or does nothing. -/
theorem testRelease_cases (h : Nat) (s : State) :
    testRelease h s = s
      ∨ ∃ d, docOf s h = some d ∧ releasable s d = true ∧ testRelease h s = releaseDoc h s := by
  unfold testRelease
  split
  · next d hd =>
    split
    · next hr => exact .inr ⟨d, hd, hr, rfl⟩
    · exact .inl rfl
  · exact .inl rfl

theorem testRelease_sound {s : State} (h : Nat) (hs : QueuesSound s) : QueuesSound (testRelease h s) := by
  rcases testRelease_cases h s with he | ⟨d, hd, hr, he⟩ <;> rw [he]
  · exact hs
  · exact releaseDoc_sound hs (unlisted_of_final hs hd (Bool.and_eq_true_iff.mp hr).1)

theorem docOf_modDoc (h : Nat) (f : Doc → Doc) (s : State) (g : Nat) :
    docOf (modDoc h f s) g = if g = h then (docOf s g).map f else docOf s g := tableGet_modify f _ h g

/-- R32: the state once a document has a final state and its retakes are gone. -/
def marked (h : Nat) (st : DocState) (s : State) : State :=
  { modDoc h (fun d => { d with state := st }) s with
    comp := { s.comp with retakes := s.comp.retakes.filter (·.doc != h) } }

/-- R32: the state once its item is gone too, before its notice and the release test. -/
def ended (h : Nat) (d : Doc) (st : DocState) (s : State) : State := removeItem d.owner h (marked h st s)

/-- R32: the state once DOC_FINAL has gone to the owner, before the release test. -/
def announced (h : Nat) (d : Doc) (st : DocState) (reason : Option Reason) (s : State) : State :=
  notify d.owner (.docFinal h st reason (d.countOutcome .exposed) (d.countOutcome .lost)) (ended h d st s)

theorem finalizeDoc_of_some {s : State} {h : Nat} {d : Doc} (hd : docOf s h = some d) (st : DocState)
    (reason : Option Reason) : finalizeDoc h st reason s = testRelease h (announced h d st reason s) := by
  simp only [finalizeDoc, hd]
  rfl

theorem finalizeDoc_of_none {s : State} {h : Nat} (hd : docOf s h = none) (st : DocState) (reason : Option Reason) :
    finalizeDoc h st reason s = s := by
  simp only [finalizeDoc, hd]

theorem docOf_ended {s : State} {h : Nat} {d : Doc} (hd : docOf s h = some d) (st : DocState) (g : Nat) :
    docOf (ended h d st s) g = if g = h then some { d with state := st } else docOf s g := by
  have he : docOf (ended h d st s) g = docOf (marked h st s) g := by simp [docOf, ended]
  rw [he, show docOf (marked h st s) g = _ from docOf_modDoc h _ s g]
  split
  · next e => rw [e, hd]; rfl
  · rfl

theorem docOf_announced {s : State} {h : Nat} {d : Doc} (hd : docOf s h = some d) (st : DocState)
    (reason : Option Reason) (g : Nat) :
    docOf (announced h d st reason s) g = if g = h then some { d with state := st } else docOf s g := docOf_ended hd st g

/-- R32: a document that ends leaves the queues sound, whatever its state becomes. -/
theorem ended_sound {s : State} {h : Nat} {d : Doc} (hs : QueuesSound s) (hd : docOf s h = some d) (st : DocState) :
    QueuesSound (ended h d st s) ∧ ∀ p, h ∉ itemDocs ((ended h d st s).docs.queues.get p).items := by
  have unlisted : ∀ p, p ≠ d.owner → h ∉ itemDocs (s.docs.queues.get p).items :=
    fun p hp m => hp (owner_of_listed hs hd m).symm
  have docs : ∀ g, g ≠ h → tableGet (ended h d st s).docs.table g = tableGet s.docs.table g := fun g hg => by
    have := docOf_ended hd st g
    rwa [if_neg hg] at this
  have table : (ended h d st s).docs.table = (marked h st s).docs.table := by simp [ended]
  have live : ∀ p g, g ≠ h → Live s.docs.table p g → Live (ended h d st s).docs.table p g :=
    fun p g hg ⟨x, hx, hy⟩ => ⟨x, (docs g hg).trans hx, hy⟩
  have placed : ∀ g, g ≠ h → Placed s.docs.table g → Placed (ended h d st s).docs.table g :=
    fun g hg ⟨x, hx, hy⟩ => ⟨x, (docs g hg).trans hx, hy⟩
  have other : ∀ p, p ≠ d.owner → (ended h d st s).docs.queues.get p = s.docs.queues.get p :=
    fun p hp => removeItem_other hp _ _
  refine ⟨queuesSound_iff.mpr fun p => ?_, fun p => ?_⟩
  · have ok := queuesSound_iff.mp hs p
    by_cases hp : p = d.owner
    · subst hp
      rw [table] at live placed ⊢
      exact removeItem_ok (s := marked h st s) ok (live d.owner) placed
    · have hne : ∀ g ∈ itemDocs (s.docs.queues.get p).items, g ≠ h := fun g m e => unlisted p hp (e ▸ m)
      rw [other p hp]
      exact ok.mono (fun g m => live p g (hne g m))
        fun g m => placed g (hne g ((itemDocs_sublist (List.take_sublist _ _)).subset m))
  · by_cases hp : p = d.owner
    · subst hp
      exact removeItem_gone (hs.once _)
    · rw [other p hp]
      exact unlisted p hp

/-- R32: a document that becomes final leaves the queues sound. -/
theorem finalizeDoc_sound {s : State} (h : Nat) (st : DocState) (reason : Option Reason) (hs : QueuesSound s) :
    QueuesSound (finalizeDoc h st reason s) := by
  cases hd : docOf s h with
  | none => rwa [finalizeDoc_of_none hd]
  | some d =>
    rw [finalizeDoc_of_some hd]
    exact testRelease_sound h (sound_of_docs (ended_sound hs hd st).1 rfl)

/-- An invariant that each step of a fold keeps is kept by the fold. -/
theorem foldl_sound {α : Type} {f : State → α → State} (hf : ∀ s a, QueuesSound s → QueuesSound (f s a)) (l : List α)
    {s : State} (hs : QueuesSound s) : QueuesSound (l.foldl f s) := by
  induction l generalizing s with
  | nil => exact hs
  | cons a l ih => exact ih (hf s a hs)

end Sys2Proof.Machine.Documents

namespace Sys2Proof.Machine.Documents

/-! ### Grants (R53, R60) -/

/-- The step of the port phase at a port is about the document at its cursor. -/
theorem portStep_cases {s : State} {r : SheetRec} {p q : Port} {h : Nat} :
    (∀ frames, portStep s r p = some (.grantDoc q h frames) → q = p ∧ cursorDoc s p = some h)
    ∧ ∀ reason page, portStep s r p = some (.rejectDoc q h reason page) → q = p ∧ cursorDoc s p = some h := by
  unfold portStep
  constructor <;> intros <;> rename_i e
  all_goals
    (repeat' split at e) <;> simp_all

/-- The retake phase tries no document. -/
theorem retakeStep_cases {s : State} {r : SheetRec} {x : ArbStep} (h : retakeStep s r = some x) :
    (∃ t f, x = .grantRetake t f) ∨ ∃ t, x = .unfitRetake t := by
  unfold retakeStep at h
  (repeat' split at h) <;> cases h
  · exact .inl ⟨_, _, rfl⟩
  · exact .inr ⟨_, rfl⟩

/-- R60: a step that grants to a document is about the document at the port's cursor. -/
theorem nextStep_grantDoc {s : State} {p : Port} {h : Nat} {frames : List Nat}
    (e : nextStep s = some (.grantDoc p h frames)) : cursorDoc s p = some h := by
  unfold nextStep at e
  split at e
  · obtain ⟨run, -, hst⟩ := Option.bind_eq_some_iff.mp e
    unfold stepAt at hst
    split at hst
    · rcases retakeStep_cases hst with ⟨_, _, hx⟩ | ⟨_, hx⟩ <;> cases hx
    · obtain ⟨rfl, hc⟩ := portStep_cases.1 frames hst
      exact hc
  · cases e

theorem cursorDoc_iff {s : State} {p : Port} {h : Nat} :
    cursorDoc s p = some h ↔ (s.docs.queues.get p).items[(s.docs.queues.get p).cursor]? = some (.doc h) := by
  unfold cursorDoc Queue.cursorItem
  split <;> simp_all

/-- The document at a cursor is passed nowhere. -/
theorem notPassed_of_cursor {s : State} (hs : QueuesSound s) {p : Port} {h : Nat} (hc : cursorDoc s p = some h)
    (q : Port) : h ∉ itemDocs ((s.docs.queues.get q).items.take (s.docs.queues.get q).cursor) := fun hm => by
  rw [cursorDoc_iff] at hc
  obtain ⟨d, hd, ho, -⟩ := hs.owned p h (mem_itemDocs.mpr (List.mem_of_getElem? hc))
  have hq : p = q := ho.symm.trans (owner_of_listed hs hd ((itemDocs_sublist (List.take_sublist _ _)).subset hm))
  subst hq
  exact (notMem_around (hs.once p) hc).1 hm

/-- R53: a document at a cursor changes its record, and stays a document of its port that is not final. -/
theorem modDoc_sound {s : State} (hs : QueuesSound s) {p : Port} {h : Nat} (hc : cursorDoc s p = some h)
    {f : Doc → Doc} (hf : ∀ d, (f d).owner = d.owner ∧ (f d).state.isFinal = false) : QueuesSound (modDoc h f s) := by
  rw [queuesSound_iff] at hs ⊢
  intro q
  have tab : ∀ g, tableGet (modDoc h f s).docs.table g = if g = h then (tableGet s.docs.table g).map f
      else tableGet s.docs.table g :=
    docOf_modDoc h f s
  refine (hs q).mono (fun g _ ⟨d, hd, ho, hn⟩ => ?_) fun g m ⟨d, hd, hp⟩ => ?_
  · by_cases hg : g = h
    · exact ⟨f d, by rw [tab, if_pos hg, hd]; rfl, (hf d).1.trans ho, (hf d).2⟩
    · exact ⟨d, by rw [tab, if_neg hg]; exact hd, ho, hn⟩
  · have hg : g ≠ h := fun e => notPassed_of_cursor (queuesSound_iff.mpr hs) hc q (e ▸ m)
    exact ⟨d, by rw [tab, if_neg hg]; exact hd, hp⟩

/-- R53: what a document grant does to the record. -/
def Doc.granted (n serial : Nat) (d : Doc) : Doc :=
  { d with
    placed := d.placed + n
    sheets := addSheetRef serial true d.sheets
    state := if d.placed + n = d.pages.length then .placed else .placing }

theorem grantDocFrames_docs (h : Nat) (d : Doc) (r : SheetRec) (frames : List Nat) (s : State) :
    (grantDocFrames h d r frames s).docs = (modDoc h (Doc.granted frames.length r.serial) s).docs := by
  simp [grantDocFrames]
  rfl

theorem passOrHold_sound {s : State} (p : Port) (h : Nat) (hs : QueuesSound s) : QueuesSound (passOrHold p h s) := by
  unfold passOrHold
  split
  · split
    · exact advanceCursor_sound hs
    · exact sound_of_docs hs (by simp)
  · exact hs

theorem grantToDoc_sound {s : State} {p : Port} {h : Nat} {frames : List Nat} (hs : QueuesSound s)
    (hc : cursorDoc s p = some h) : QueuesSound (grantToDoc p h frames s) := by
  unfold grantToDoc
  split
  · next d r _ _ =>
    refine sound_of_docs (passOrHold_sound p h (s := grantDocFrames h d r frames s) ?_) (by simp)
    refine sound_of_docs (modDoc_sound hs hc (f := Doc.granted frames.length r.serial) fun d => ⟨rfl, ?_⟩)
      (grantDocFrames_docs ..)
    simp only [Doc.granted]
    split <;> rfl
  · exact hs

/-! ### Changes of a record's pages or sheets -/

@[simp] theorem modPage_owner (i : Nat) (f : PageMark → PageMark) (d : Doc) : (d.modPage i f).owner = d.owner := rfl

@[simp] theorem modPage_state (i : Nat) (f : PageMark → PageMark) (d : Doc) : (d.modPage i f).state = d.state := rfl

@[simp] theorem grantToRetake_standing (t : Retake) (frame : Nat) (s : State) :
    standing (grantToRetake t frame s).docs.table = standing s.docs.table := by
  unfold grantToRetake
  split <;> simp [grantRetakeFrame]

@[simp] theorem accountSpoil_standing (ref : PageRef) (serial n : Nat) (cause : SpoilCause) (s : State) :
    standing (accountSpoil ref serial n cause s).docs.table = standing s.docs.table := by
  unfold accountSpoil
  split
  · rfl
  · dsimp only
    split <;> simp

@[simp] theorem accountSite_standing (site : Site) (ref : Option PageRef) (serial : Nat) (cause : SpoilCause)
    (s : State) : standing (accountSite site ref serial cause s).docs.table = standing s.docs.table := by
  unfold accountSite
  (repeat' split) <;> simp

@[simp] theorem spoilFrame_standing (cause : SpoilCause) (s : State) :
    standing (spoilFrame cause s).docs.table = standing s.docs.table := by
  unfold spoilFrame
  split <;> simp

@[simp] theorem faultFrame_standing (cause : SpoilCause) (s : State) :
    standing (faultFrame cause s).docs.table = standing s.docs.table := by
  unfold faultFrame
  dsimp only
  split <;> simp

@[simp] theorem failOp_standing (op : Operation) (s : State) :
    standing (failOp op s).docs.table = standing s.docs.table := by
  unfold failOp
  split <;> simp [loseStage, transportFault]

@[simp] theorem writerSample_standing (reading : Nat) (s : State) :
    standing (writerSample reading s).docs.table = standing s.docs.table := by
  unfold writerSample
  dsimp only
  (repeat' split) <;> simp [spoilBeam]

@[simp] theorem completeMeasurement_standing (reading : Nat) (s : State) :
    standing (completeMeasurement reading s).docs.table = standing s.docs.table := by
  unfold completeMeasurement
  dsimp only
  split <;> simp

@[simp] theorem endFrame_standing (s : State) : standing (endFrame s).docs.table = standing s.docs.table := by
  unfold endFrame
  (repeat' split) <;> simp
  split <;> simp

@[simp] theorem loseRetake_standing (t : Retake) (s : State) :
    standing (loseRetake t s).docs.table = standing s.docs.table := by
  simp [loseRetake]

@[simp] theorem dropSheetRef_standing (h : Nat) (s : State) :
    standing (dropSheetRef h s).docs.table = standing s.docs.table := by
  unfold dropSheetRef
  (repeat' split) <;> simp

@[simp] theorem unplaceDoc_standing (h : Nat) (s : State) :
    standing (unplaceDoc h s).docs.table = standing s.docs.table := by
  unfold unplaceDoc
  split <;> simp

@[simp] theorem undoOutcomes_standing (frames : List FrameRec) (s : State) :
    standing (undoOutcomes frames s).docs.table = standing s.docs.table := by
  have mark : ∀ (s : State) (f : FrameRec), standing (undoMark s f).docs.table = standing s.docs.table :=
    fun s f => by
      unfold undoMark
      split <;> simp
  exact foldl_keep (g := fun s => standing s.docs.table) mark frames s

end Sys2Proof.Machine.Documents

namespace Sys2Proof.Machine.Documents

/-! ### An abort takes documents back (R26, R36) -/

/-- Under the changes of an abort a document stays its port's and not final, and only those of a list may lose PLACED. -/
structure TakenBack (docs : List Nat) (t t' : Table Doc) : Prop where
  live   : ∀ p g, Live t p g → Live t' p g
  placed : ∀ g, g ∉ docs → Placed t g → Placed t' g

theorem TakenBack.of_standing {docs : List Nat} {t t' : Table Doc} (h : standing t' = standing t) :
    TakenBack docs t t' :=
  ⟨fun p g => by rw [live_iff, live_iff, h]; exact id, fun g _ => by rw [placed_iff, placed_iff, h]; exact id⟩

theorem TakenBack.trans {docs : List Nat} {t t' t'' : Table Doc} (h : TakenBack docs t t')
    (k : TakenBack docs t' t'') : TakenBack docs t t'' :=
  ⟨fun p g x => k.live p g (h.live p g x), fun g hg x => k.placed g hg (h.placed g hg x)⟩

/-- R26: one document loses the pages of its entry. -/
theorem takenBack_unplace {docs : List Nat} {h : Nat} (hm : h ∈ docs) (n : Nat) (t : Table Doc) :
    TakenBack docs t (tableModify (Doc.unplace n) t h) := by
  refine ⟨fun p g ⟨d, hd, ho, hf⟩ => ?_, fun g hg ⟨d, hd, hp⟩ => ?_⟩
  · simp only [Live, tableGet_modify]
    split
    · refine ⟨d.unplace n, by rw [hd]; rfl, ho, ?_⟩
      simp only [Doc.unplace]
      split <;> rfl
    · exact ⟨d, hd, ho, hf⟩
  · have hne : g ≠ h := fun e => hg (e ▸ hm)
    exact ⟨d, by rw [tableGet_modify, if_neg hne]; exact hd, hp⟩

/-- A change of every record. -/
theorem tableGet_map {α : Type} (f : α → α) (t : Table α) (h : Nat) :
    tableGet (t.map fun x => (x.1, f x.2)) h = (tableGet t h).map f := by
  induction t with
  | nil => rfl
  | cons c t ih =>
    simp only [List.map_cons, tableGet]
    split
    · rfl
    · exact ih

/-- R26: what an abort does to the records. -/
theorem undoDocs_takenBack (r : SheetRec) (s : State) :
    TakenBack ((requeuedDocs r s).map (·.doc)) s.docs.table (undoDocs r s).docs.table := by
  have fold : ∀ (docs : List Nat) (l : List Entry) (s : State), (∀ e ∈ l, e.doc ∈ docs) →
      TakenBack docs s.docs.table (l.foldl (fun s e => modDoc e.doc (Doc.unplace e.pageCount) s) s).docs.table := by
    intro docs l
    induction l with
    | nil => exact fun s _ => .of_standing rfl
    | cons e l ih =>
      intro s hl
      exact (takenBack_unplace (hl e (by simp)) e.pageCount s.docs.table).trans
        (ih (modDoc e.doc (Doc.unplace e.pageCount) s) fun e he => hl e (by simp [he]))
  refine (fold _ (requeuedDocs r s) s fun e he => List.mem_map_of_mem he).trans (.of_standing ?_)
  funext h
  simp only [undoDocs, standing]
  rw [tableGet_map (fun d : Doc => { d with sheets := d.sheets.filter (·.serial != r.serial) }), Option.map_map]
  rfl

/-- R36: where a cursor moves back to, no document that is taken back stands before it; where it stays, none is passed. -/
theorem moveBackTo_cases (docs : List Nat) (q : Queue) :
    (∃ i, moveBackTo docs q = some i ∧ i < q.cursor ∧ ∀ h ∈ itemDocs (q.items.take i), h ∉ docs)
      ∨ moveBackTo docs q = none ∧ ∀ h ∈ itemDocs (q.items.take q.cursor), h ∉ docs := by
  unfold moveBackTo
  split
  · next i hi =>
    obtain ⟨hlt, -, hbefore⟩ := List.findIdx?_eq_some_iff_getElem.mp hi
    have none_before : ∀ n, n ≤ i → ∀ h ∈ itemDocs (q.items.take n), h ∉ docs := fun n hn h hm hd => by
      obtain ⟨j, hj, he⟩ := List.mem_iff_getElem.mp (mem_itemDocs.mp hm)
      rw [List.length_take] at hj
      have hb := hbefore j (by omega)
      rw [List.getElem_take] at he
      simp only [he] at hb
      simp_all
    split
    · next hc => exact .inl ⟨i, rfl, hc, none_before i le_rfl⟩
    · next hc => exact .inr ⟨rfl, none_before _ (by omega)⟩
  · next hn =>
    rw [List.findIdx?_eq_none_iff] at hn
    refine .inr ⟨rfl, fun h hm hd => ?_⟩
    simpa [hd] using hn _ (List.mem_of_mem_take (mem_itemDocs.mp hm))

theorem undoPort_other {p q : Port} (hq : q ≠ p) (docs : List Nat) (marks : PerPort Bool) (s : State) :
    (undoPort docs marks p s).docs.queues.get q = s.docs.queues.get q := by
  unfold undoPort
  split
  · rw [advanceCursor_other hq]
    simp [hq]
  · split <;> rfl

/-- R36: the cursor of a port moves back before every document that is taken back. -/
theorem undoPort_ok {live placed : Nat → Prop} {docs : List Nat} {marks : PerPort Bool} {p : Port} {s : State}
    (ok : QueueOk live placed (s.docs.queues.get p))
    (hp : ∀ h, h ∉ docs → placed h → Placed s.docs.table h) :
    QueueOk live (Placed s.docs.table) ((undoPort docs marks p s).docs.queues.get p) := by
  unfold undoPort
  rcases moveBackTo_cases docs (s.docs.queues.get p) with ⟨i, he, hi, hd⟩ | ⟨he, hd⟩ <;> simp only [he]
  · have back := (ok.moveBack hi.le).mono (placed' := Placed s.docs.table) (fun _ _ => id) fun h m => hp h (hd h m)
    refine @advanceCursor_ok live p (modQueue p (fun q => { q with cursor := i })
      { s with comp := { s.comp with pendingMarks := s.comp.pendingMarks.set p false } }) ?_
    simpa using back
  · have same := ok.mono (placed' := Placed s.docs.table) (fun _ _ => id) fun h m => hp h (hd h m)
    split <;> exact same

/-- R26, R36: the ports go back one after the other. -/
theorem undoPorts_ok {live placed : Nat → Prop} (docs : List Nat) (marks : PerPort Bool) {p : Port} :
    ∀ (l : List Port) {s : State}, QueueOk live placed (s.docs.queues.get p) →
      (∀ h, h ∉ docs → placed h → Placed s.docs.table h) → (p ∉ l → ∀ h, placed h → Placed s.docs.table h) →
      QueueOk live (Placed s.docs.table) ((l.foldl (fun s p => undoPort docs marks p s) s).docs.queues.get p)
  | [], _, ok, _, hn => ok.mono (fun _ _ => id) fun h _ => hn (by simp) h
  | q :: l, s, ok, hd, hn => by
    have table : (undoPort docs marks q s).docs.table = s.docs.table := by simp
    rw [List.foldl_cons, ← table]
    by_cases hq : p = q
    · subst hq
      exact undoPorts_ok docs marks l (undoPort_ok ok hd) (by simp) (by simp)
    · exact undoPorts_ok docs marks l (by rw [undoPort_other hq]; exact ok) (by simpa using hd)
        fun hl => by simpa using hn (by simp [hq, hl])

/-- R26: which documents an abort takes back depends on their states alone. -/
theorem requeuedDocs_congr {s t : State} (h : standing t.docs.table = standing s.docs.table) (r : SheetRec) :
    requeuedDocs r t = requeuedDocs r s := by
  have working : ∀ s g, docWorking s g = (standing s.docs.table g).any fun x => !x.2.isFinal := fun s g => by
    simp only [docWorking, docOf, standing]
    cases tableGet s.docs.table g <;> rfl
  simp only [requeuedDocs, working, h]

theorem undoSheet_sound {s : State} (r : SheetRec) (hs : QueuesSound s) : QueuesSound (undoSheet r s) := by
  have base : standing (undoRetakes r (undoOutcomes r.frames s)).docs.table = standing s.docs.table := by simp
  have back : TakenBack ((requeuedDocs r s).map (·.doc)) s.docs.table
      (undoDocs r (undoRetakes r (undoOutcomes r.frames s))).docs.table := by
    rw [← requeuedDocs_congr base]
    exact (TakenBack.of_standing base).trans (undoDocs_takenBack r _)
  rw [queuesSound_iff] at hs ⊢
  intro p
  have ok := (hs p).mono (live' := Live (undoDocs r (undoRetakes r (undoOutcomes r.frames s))).docs.table p)
    (fun g _ => back.live p g) fun _ _ => id
  have all : p ∈ allPorts := by cases p <;> simp [allPorts]
  have := undoPorts_ok ((requeuedDocs r s).map (·.doc)) s.comp.marks allPorts (p := p)
    (s := { undoDocs r (undoRetakes r (undoOutcomes r.frames s)) with
      comp := { (undoDocs r (undoRetakes r (undoOutcomes r.frames s))).comp with marks := noPorts } })
    (by simpa using ok) back.placed fun hn => absurd all hn
  simpa [undoSheet] using this

theorem abortPlaced_sound {s : State} (hs : QueuesSound s) : QueuesSound (abortPlaced s) := by
  have spoiled : QueuesSound (stopSheet (spoilFrame .abort s)) :=
    SameStanding.sound ⟨by simp, by simp⟩ hs
  unfold abortPlaced
  dsimp only
  split
  · exact spoiled
  · next r _ =>
    refine sound_of_docs (undoSheet_sound r (s := modCurrent SheetRec.abort (stopSheet (spoilFrame .abort s))) ?_) (by simp)
    exact sound_of_docs spoiled rfl

/-! ### The completion limit and the finish of a sheet (R18, R27) -/

theorem expireCompletion_sound {s : State} (hs : QueuesSound s) : QueuesSound (expireCompletion s) := by
  have expire : ∀ (s : State) (h : Nat), QueuesSound s → QueuesSound (expireDoc h s) :=
    fun s h hs => finalizeDoc_sound h _ _ (sound_of_docs hs rfl)
  unfold expireCompletion
  split
  · exact hs
  · next r _ =>
    dsimp only
    refine sound_of_docs (foldl_sound (f := fun s h => expireDoc h s) expire (expiredDocs r.frames)
      (sound_of_docs (t := { modCurrent (fun r => { r with frames := r.frames.map FrameRec.expire }) s with
        comp := { s.comp with completion := none } }) hs rfl)) ?_
    simp

theorem applyCompletion_sound {s : State} (hs : QueuesSound s) : QueuesSound (applyCompletion s) := by
  unfold applyCompletion
  (repeat' split) <;> first | exact expireCompletion_sound hs | exact hs

theorem finishDocs_sound {s : State} (hs : QueuesSound s) : QueuesSound (finishDocs s) := by
  refine foldl_sound (fun s h hs => ?_) _ hs
  unfold finishDoc
  (repeat' split) <;> first | exact finalizeDoc_sound h _ _ hs | exact hs

theorem reclaimDocs_sound {s : State} (hs : QueuesSound s) : QueuesSound (reclaimDocs s) :=
  foldl_sound (fun _ h hs => testRelease_sound h hs) _ hs

/-- R27: the documents as the finish of a sheet leaves them. -/
theorem finishSheet_docs {s : State} {r : SheetRec} (hr : s.index.current = some r) :
    ∃ x : State, x.docs = s.docs ∧ ((finishSheet s).docs = (reclaimDocs x).docs
      ∨ (finishSheet s).docs = (reclaimDocs (finishDocs x)).docs) := by
  simp only [finishSheet, hr]
  by_cases ha : (r.status == .aborted) = true
  · refine ⟨{ s with index := { s.index with current := none, ring := pushRing s.index.ring r, rendered := none } }, rfl,
      .inl ?_⟩
    simp only [ha, if_true]
    split <;> simp
  · refine ⟨{ s with index := { s.index with
      current := none, ring := pushRing s.index.ring { r with status := .finished }, rendered := none } }, rfl,
      .inr ?_⟩
    simp only [ha, Bool.false_eq_true, if_false]
    split <;> simp

theorem finishSheet_sound {s : State} (hs : QueuesSound s) : QueuesSound (finishSheet s) := by
  cases hr : s.index.current with
  | none => simpa only [finishSheet, hr] using hs
  | some r =>
    obtain ⟨x, hx, he | he⟩ := finishSheet_docs hr
    · exact sound_of_docs (reclaimDocs_sound (sound_of_docs hs hx)) he
    · exact sound_of_docs (reclaimDocs_sound (finishDocs_sound (sound_of_docs hs hx))) he

/-! ### A port reset (R46, R187) -/

/-- R28: what the release of several documents leaves. -/
theorem docOf_releaseDocs (l : List Nat) (g : Nat) (s : State) :
    docOf (l.foldl (fun s h => releaseDoc h s) s) g = if g ∈ l then none else docOf s g := by
  induction l generalizing s with
  | nil => simp
  | cons h l ih =>
    rw [List.foldl_cons, ih, docOf_releaseDoc]
    by_cases hg : g = h <;> simp [hg]

/-- R46: the items that stay are those up to the cursor, and one more where a PLACING document stands at it. -/
theorem keptItems_ge (s : State) (p : Port) : (s.docs.queues.get p).cursor ≤ keptItems s p := by
  unfold keptItems
  dsimp only
  (repeat' split) <;> omega

/-- R46: the documents whose items a port reset removes. -/
def droppedDocs (s : State) (p : Port) : List Nat :=
  itemDocs ((s.docs.queues.get p).items.drop (keptItems s p))

theorem dropUnplaced_queues (s : State) (p : Port) :
    (dropUnplaced p s).docs.queues = s.docs.queues.set p
      { s.docs.queues.get p with items := (s.docs.queues.get p).items.take (keptItems s p) } := by
  simp only [dropUnplaced, releaseDocs_keeps, modQueue_queues]
  split <;> rfl

theorem docOf_dropUnplaced (s : State) (p : Port) (g : Nat) :
    docOf (dropUnplaced p s) g = if g ∈ droppedDocs s p then none else docOf s g := by
  simp only [dropUnplaced]
  rw [docOf_releaseDocs]
  congr 1
  split <;> rfl

theorem dropUnplaced_sound {s : State} (p : Port) (hs : QueuesSound s) : QueuesSound (dropUnplaced p s) := by
  have sound := queuesSound_iff.mp hs
  have split := List.take_append_drop (keptItems s p) (s.docs.queues.get p).items
  have once := (sound p).once
  rw [← split, itemDocs_append, List.nodup_append] at once
  obtain ⟨-, -, apart⟩ := once
  rw [queuesSound_iff]
  intro q
  have table : ∀ g, tableGet (dropUnplaced p s).docs.table g
      = if g ∈ droppedDocs s p then none else tableGet s.docs.table g := docOf_dropUnplaced s p
  have keep : ∀ (queue : Queue), QueueOk (Live s.docs.table q) (Placed s.docs.table) queue →
      (∀ g ∈ itemDocs queue.items, g ∉ droppedDocs s p) →
      QueueOk (Live (dropUnplaced p s).docs.table q) (Placed (dropUnplaced p s).docs.table) queue :=
    fun queue ok hk => ok.mono
      (fun g m ⟨d, hd, hx⟩ => ⟨d, by rw [table, if_neg (hk g m)]; exact hd, hx⟩)
      fun g m ⟨d, hd, hx⟩ => ⟨d, by
        rw [table, if_neg (hk g ((itemDocs_sublist (List.take_sublist _ _)).subset m))]; exact hd, hx⟩
  rw [dropUnplaced_queues]
  by_cases hq : q = p
  · subst hq
    rw [PerPort.get_set_same]
    exact keep _ ((sound q).take (keptItems_ge s q)) fun g m hd => apart g m g hd rfl
  · rw [PerPort.get_set_other _ _ hq]
    refine keep _ (sound q) fun g m hd => hq ?_
    obtain ⟨d, hd', ho, -⟩ := hs.owned q g m
    exact ho.symm.trans (owner_of_listed hs hd' ((itemDocs_sublist (List.drop_sublist _ _)).subset hd))

theorem resetPort_sound {s : State} (p : Port) (hs : QueuesSound s) : QueuesSound (resetPort p s) := by
  have core : QueuesSound (portResetCore p s) := by
    refine sound_of_docs (dropUnplaced_sound p
      (s := abandonWritesOf p (withdraw (.port p) (modPort p resetPortRec s))) (sound_of_docs hs ?_)) ?_
    · simp
    · simp [portResetCore]
  unfold resetPort
  dsimp only
  split <;> exact sound_of_docs core (by simp)

/-- R1: a reset leaves every queue empty. -/
theorem resetPart_sound (straps : PerPort PortClass) (s : State) : QueuesSound (resetPart straps s) := by
  rw [queuesSound_iff]
  intro p
  have empty : (resetPart straps s).docs.queues.get p = ⟨[], 0⟩ := by cases p <;> rfl
  rw [empty]
  exact ⟨le_rfl, List.nodup_nil, by simp, by simp⟩

/-! ### Submitting, marking, cancelling, rejecting (R33, R37 to R43, R64) -/

theorem createDoc_sound {s : State} {p : Port} {h : Nat} {d : Doc} (hs : QueuesSound s) (hn : docOf s h = none)
    (ho : d.owner = p) (hf : d.state.isFinal = false) : QueuesSound (createDoc p h d s) := by
  have unlisted : ∀ q, h ∉ itemDocs (s.docs.queues.get q).items := fun q m => by
    obtain ⟨d', hd', -⟩ := hs.owned q h m
    rw [hn] at hd'
    cases hd'
  have put : QueuesSound { s with docs := { s.docs with table := tablePut s.docs.table h d } } :=
    sound_of_unlisted hs rfl (fun g hg => by simp [docOf, tableGet_put, hg]) unlisted
  have table : (createDoc p h d s).docs.table = tablePut s.docs.table h d := by simp [createDoc]
  have queues : (createDoc p h d s).docs.queues
      = s.docs.queues.set p { s.docs.queues.get p with items := (s.docs.queues.get p).items ++ [.doc h] } := by
    simp [createDoc]
  rw [queuesSound_iff] at put ⊢
  intro q
  rw [table, queues, PerPort.get_set]
  split
  · next hq =>
    subst hq
    refine (put q).append (.doc h) fun g hg => ?_
    cases hg
    exact ⟨⟨d, by rw [tableGet_put, if_pos rfl], ho, hf⟩, unlisted q⟩
  · exact put q

theorem submit_sound {s : State} (p : Port) (tag : Nat) (key : Text) (cls : Nat) (stream : Bool) (count : Nat)
    (pages : List Nat) (hs : QueuesSound s) : QueuesSound (submit p tag key cls stream count pages s) := by
  have accepted : ∀ h c, docOf s h = none → QueuesSound (createDoc p h (newDoc p key c stream pages) s) :=
    fun h c hn => createDoc_sound hs hn rfl rfl
  unfold submit
  (repeat' split) <;> first
    | exact sound_of_docs hs rfl
    | next c _ _ _ _ _ _ h hh => exact sound_of_docs (accepted h c (tableFree_spec hh).2.1) (by simp)

theorem joinMark_sound {s : State} (p : Port) (hs : QueuesSound s) : QueuesSound (joinMark p s) := by
  have joined : QueuesSound (modQueue p (fun q => { q with items := q.items ++ [.mark] }) s) := by
    rw [queuesSound_iff] at hs ⊢
    intro q
    rw [modQueue_queues, PerPort.get_set]
    split
    · next hq => exact hq ▸ (hs q).append .mark (by simp)
    · exact hs q
  unfold joinMark
  dsimp only
  split
  · exact sound_of_docs (advanceCursor_sound (p := p) joined) (by simp)
  · exact joined

theorem cancel_sound {s : State} (p : Port) (tag h : Nat) (hs : QueuesSound s) : QueuesSound (cancel p tag h s) := by
  have accepted : ∀ d, QueuesSound (acceptCancel p tag h d s) := fun d => by
    unfold acceptCancel
    dsimp only
    split
    · refine sound_of_docs (finalizeDoc_sound h .cancelled none (s := detachPages h d s) ?_) (by simp [cancelDoc])
      exact sound_of_docs hs (by simp)
    · refine sound_of_docs (finalizeDoc_sound h .cancelled none (s := detachPages h d (unplaceDoc h s)) ?_)
        (by simp [cancelDoc])
      exact SameStanding.sound ⟨by simp, by simp⟩ hs
  unfold cancel
  (repeat' split) <;> first | exact sound_of_docs hs rfl | exact accepted _

theorem rejectEffects_sound {s : State} (p : Port) (h : Nat) (reason : Reason) (page : Nat) (hs : QueuesSound s) :
    QueuesSound (rejectEffects p h reason page s) := by
  refine sound_of_docs (finalizeDoc_sound h .rejected (some reason)
    (s := notify p (.rejected h reason page) (dropSheetRef h (modCurrent (SheetRec.reject h) s))) ?_)
    (by simp [rejectEffects])
  exact SameStanding.sound ⟨by simp, by simp⟩ hs

end Sys2Proof.Machine.Documents

namespace Sys2Proof.Machine.Documents

/-! ### Every command and every step -/

/-- R174, R176: a request is turned away with a reply at most, or its block takes it. -/
theorem request_cases {p : Port} {k : Kind} {tag : Nat} {s t : State} {block : State → State}
    (h : request p k tag s block = .next t) :
    t = s ∨ (∃ status, t = answer p k tag status [] s) ∨ accepts s p k ∧ t = block s := by
  unfold request at h
  dsimp only at h
  (repeat' split at h) <;> cases h
  · exact .inl rfl
  · exact .inr (.inl ⟨_, rfl⟩)
  · exact .inr (.inl ⟨_, rfl⟩)
  · next hu hb hc =>
    refine .inr (.inr ⟨⟨by simpa using hu, by simpa using hb, fun hk => ?_⟩, rfl⟩)
    cases hcl : (s.ports.get p).cls with
    | feeder => exact absurd ⟨hk, hcl⟩ hc
    | bureau => rfl

theorem request_sound {p : Port} {k : Kind} {tag : Nat} {s t : State} {block : State → State}
    (h : request p k tag s block = .next t) (hs : QueuesSound s) (hb : QueuesSound (block s)) : QueuesSound t := by
  rcases request_cases h with rfl | ⟨status, rfl⟩ | ⟨-, rfl⟩
  · exact hs
  · exact sound_of_docs hs rfl
  · exact hb

/-- R176: a request whose block leaves the documents as they are. -/
theorem request_docs {p : Port} {k : Kind} {tag : Nat} {s t : State} {block : State → State}
    (h : request p k tag s block = .next t) (hb : (block s).docs = s.docs) : t.docs = s.docs := by
  rcases request_cases h with rfl | ⟨status, rfl⟩ | ⟨-, rfl⟩
  · rfl
  · rfl
  · exact hb

/-- The commands that may change a document or a port queue. -/
def changesDocs : Instr → Bool
  | .powerOn _ | .deviceReset _ | .linkDown _ | .abortSheet _ _ | .setLimits _ _ _ _ _ _
  | .submitDocument _ _ _ _ _ _ _ | .batchMark _ _ | .cancelDocument _ _ _ | .portReset _ _ | .completionTimerExpiry
  | .pauseTimerExpiry | .operationTimeout | .finishingCutComplete | .measurementComplete _ | .lineEnd | .positionLoss
  | .gateRelease | .grant | .rejection | .retakeUnfit => true
  | _ => false

/-- R30 to R33: every other command leaves the documents and the queues as they are. -/
theorem exec_keeps_docs {c : Instr} (hc : changesDocs c = false) {s t : State} (h : exec c s = .next t) :
    t.docs = s.docs := by
  cases c <;> simp only [changesDocs, reduceCtorEq] at hc <;> simp only [exec] at h
  case linkUp => unfold execLinkUp at h; split at h <;> cases h <;> simp
  case badFrame => unfold execBadFrame at h; split at h <;> cases h <;> rfl
  case unknownRequest =>
    unfold execUnknownRequest at h
    split at h
    · exact request_docs h rfl
    · dsimp only at h
      (repeat' split at h) <;> cases h <;> rfl
  case ageTimerExpiry => unfold execAgeTimerExpiry at h; (repeat' split at h) <;> cases h <;> simp [reach]
  case quietTimerExpiry => unfold execQuietTimerExpiry at h; split at h <;> cases h <;> rfl
  case serialWriteComplete => unfold execSerialWriteComplete at h; split at h <;> cases h <;> (try split) <;> simp
  case openingAdvanceComplete => unfold execOpeningAdvanceComplete at h; split at h <;> cases h <;> simp
  case leaderInAdvanceComplete => unfold execLeaderInAdvanceComplete at h; split at h <;> cases h <;> simp
  case leaderOutAdvanceComplete => unfold execLeaderOutAdvanceComplete at h; split at h <;> cases h <;> simp
  case stageArrival => unfold execStageArrival at h; split at h <;> cases h <;> simp
  case homingComplete => unfold execHomingComplete at h; split at h <;> cases h <;> simp
  case frameStart => unfold execFrameStart at h; (repeat' split at h) <;> cases h <;> simp
  case tryFailure => unfold execTryFailure at h; split at h <;> cases h <;> simp
  case retraceStart => unfold execRetraceStart at h; dsimp only at h; (repeat' split at h) <;> cases h <;> simp
  case rowsWritten => unfold execRowsWritten at h; dsimp only at h; (repeat' split at h) <;> cases h <;> simp
  all_goals
    refine request_docs h ?_
    (repeat' split) <;> simp

/-- R33, R35: a command leaves sound queues sound. -/
theorem exec_sound {c : Instr} {s t : State} (hs : QueuesSound s) (h : exec c s = .next t) : QueuesSound t := by
  by_cases hc : changesDocs c = false
  · exact sound_of_docs hs (exec_keeps_docs hc h)
  have same : ∀ x : State, x.docs.queues = s.docs.queues → standing x.docs.table = standing s.docs.table →
      QueuesSound x := fun x hq hd => SameStanding.sound ⟨hq, hd⟩ hs
  cases c <;> simp only [changesDocs, not_true_eq_false, Bool.true_eq_false, not_false_eq_true] at hc <;>
    simp only [exec] at h
  case powerOn straps => cases h; exact resetPart_sound straps s
  case deviceReset straps => cases h; exact resetPart_sound straps s
  case linkDown p =>
    unfold execLinkDown at h
    split at h <;> cases h
    · exact resetPort_sound p (sound_of_docs hs rfl)
    · exact hs
  case portReset p tag =>
    exact request_sound h hs (sound_of_docs (resetPort_sound p hs) rfl)
  case abortSheet p tag =>
    refine request_sound h hs ?_
    split
    · exact sound_of_docs hs (by simp)
    all_goals first
      | exact sound_of_docs (abortPlaced_sound hs) rfl
      | exact sound_of_docs hs rfl
  case setLimits p tag pause completion age starve =>
    refine request_sound h hs (sound_of_docs (applyCompletion_sound (s := { s with comp := { s.comp with
      pauseLimit := clamp 1 60 pause, completionLimit := clamp 10 3600 completion, ageLimit := storedAge age
      starveClose := starve } }) (sound_of_docs hs rfl)) (by simp))
  case submitDocument p tag key cls stream count pages =>
    exact request_sound h hs (submit_sound p tag key cls stream count pages hs)
  case batchMark p tag =>
    refine request_sound h hs ?_
    dsimp only
    split
    · exact sound_of_docs hs rfl
    · exact joinMark_sound p (sound_of_docs hs rfl)
  case cancelDocument p tag doc => exact request_sound h hs (cancel_sound p tag doc hs)
  case completionTimerExpiry =>
    unfold execCompletionTimerExpiry at h
    split at h <;> cases h
    · next t _ =>
      exact sound_of_docs (expireCompletion_sound (s := reach (t + s.comp.completionLimit * second) s)
        (sound_of_docs hs rfl)) (by simp)
    · exact hs
  case pauseTimerExpiry =>
    unfold execPauseTimerExpiry at h
    (repeat' split at h) <;> cases h <;> exact same _ (by simp [reach]) (by simp [reach])
  case operationTimeout =>
    unfold execOperationTimeout at h
    split at h <;> cases h <;> exact same _ (by simp [reach]) (by simp [reach])
  case finishingCutComplete =>
    unfold execFinishingCutComplete at h
    split at h <;> cases h
    · exact sound_of_docs (finishSheet_sound (s := completeFilmOp .finishing s) (sound_of_docs hs rfl)) (by simp)
    · exact hs
  case measurementComplete power =>
    unfold execMeasurementComplete at h
    (repeat' split at h) <;> cases h <;> exact same _ (by simp [reach]) (by simp [reach])
  case lineEnd =>
    unfold execLineEnd at h
    dsimp only at h
    (repeat' split at h) <;> cases h <;> exact same _ (by simp [reach]) (by simp [reach])
  case positionLoss =>
    cases h
    exact same _ (by simp) (by simp [loseStage])
  case gateRelease =>
    unfold execGateRelease at h
    split at h <;> cases h <;> exact same _ (by simp) (by simp [transportFault])
  case grant =>
    unfold execGrant at h
    split at h <;> cases h
    · next p g frames hn =>
      refine grantToDoc_sound (sound_of_docs hs (by simp)) ?_
      rw [← nextStep_grantDoc hn]
      simp [cursorDoc]
    · exact same _ (by simp) (by simp)
    all_goals exact hs
  case rejection =>
    unfold execRejection at h
    split at h <;> cases h
    · next p g reason page _ =>
      exact sound_of_docs (rejectEffects_sound p g reason page (s := reachStep s) (sound_of_docs hs (by simp))) (by simp)
    all_goals exact hs
  case retakeUnfit =>
    unfold execRetakeUnfit at h
    split at h <;> cases h
    · exact same _ (by simp) (by simp)
    all_goals exact hs

/-- Settles O53: an idle step leaves the documents as they are, and each command keeps the queues sound. -/
theorem stepsKeepTheQueuesSound : Obligations.StepsKeepTheQueuesSound := by
  intro s t hs h
  unfold step at h
  split at h
  · cases h
    exact sound_of_docs hs (by simp [tick])
  · next c rest _ => exact exec_sound (s := { s with pending := rest }) (sound_of_docs hs rfl) h

end Sys2Proof.Machine.Documents

/-! ## The five queries (R45, R85, R165, R166, R185) -/

namespace Sys2Proof.Machine.Documents

/-! ### What an accepted query answers -/

/-- R165: the record that a serial names, in one case split. -/
theorem recordOf_eq (s : State) (serial : Nat) :
    recordOf s serial = if serial = 0 ∨ s.index.current.any (fun r => r.serial == serial) then s.index.current
      else s.index.ring.find? fun r => r.serial == serial := by
  unfold recordOf
  cases hc : s.index.current with
  | none => by_cases h0 : serial = 0 <;> simp [h0]
  | some r => by_cases h0 : serial = 0 <;> by_cases hr : r.serial = serial <;> simp [h0, hr]

/-- R45, R85, R165: a FEEDER port that asks about another port's record is refused. -/
theorem refused_iff {c : PortClass} {o p : Port} :
    ¬ (c = .bureau ∨ o = p) ↔ c = .feeder ∧ o ≠ p := by
  cases c <;> simp

theorem mayRead_iff {s : State} {p o : Port} : mayRead s p o = true ↔ (s.ports.get p).cls = .bureau ∨ o = p := by
  simp [mayRead]

theorem readStatus_accepted {s : State} {p : Port} (h : accepts s p .readStatus) (tag : Nat) :
    exec (.readStatus p tag) s = .next (withReply p 0xA3 tag .ok (statusBody p s) s) :=
  request_accepted h tag _

theorem queryDocument_accepted {s : State} {p : Port} (h : accepts s p .queryDocument) (tag g : Nat) :
    (docOf s g = none → exec (.queryDocument p tag g) s = .next (withReply p 0x8D tag .badHandle [] s))
    ∧ ∀ d, docOf s g = some d →
      ((s.ports.get p).cls = .feeder ∧ d.owner ≠ p →
        exec (.queryDocument p tag g) s = .next (withReply p 0x8D tag .notOwner [] s))
      ∧ ((s.ports.get p).cls = .bureau ∨ d.owner = p →
        exec (.queryDocument p tag g) s = .next (withReply p 0x8D tag .ok (documentBody s g d) s)) := by
  have he := request_accepted h tag fun s => match docOf s g with
    | none => answer p .queryDocument tag .badHandle [] s
    | some d =>
      if (s.ports.get p).cls = .feeder ∧ d.owner ≠ p then answer p .queryDocument tag .notOwner [] s
      else answer p .queryDocument tag .ok (documentBody s g d) s
  refine ⟨fun hn => ?_, fun d hd => ⟨fun hf => ?_, fun hf => ?_⟩⟩ <;> refine he.trans ?_
  · simp only [hn]; rfl
  · simp only [hd, if_pos hf]; rfl
  · simp only [hd, if_neg (mt refused_iff.mpr (not_not.mpr hf))]; rfl

theorem queryPage_accepted {s : State} {p : Port} (h : accepts s p .queryPage) (tag g : Nat) :
    (tableGet s.store.pages g = none → exec (.queryPage p tag g) s = .next (withReply p 0x90 tag .badHandle [] s))
    ∧ ∀ pg, tableGet s.store.pages g = some pg →
      ((s.ports.get p).cls = .feeder ∧ pg.owner ≠ p →
        exec (.queryPage p tag g) s = .next (withReply p 0x90 tag .notOwner [] s))
      ∧ ((s.ports.get p).cls = .bureau ∨ pg.owner = p →
        exec (.queryPage p tag g) s = .next (withReply p 0x90 tag .ok (pageBody g pg) s)) := by
  have he := request_accepted h tag fun s => match tableGet s.store.pages g with
    | none => answer p .queryPage tag .badHandle [] s
    | some pg =>
      if (s.ports.get p).cls = .feeder ∧ pg.owner ≠ p then answer p .queryPage tag .notOwner [] s
      else answer p .queryPage tag .ok (pageBody g pg) s
  refine ⟨fun hn => ?_, fun d hd => ⟨fun hf => ?_, fun hf => ?_⟩⟩ <;> refine he.trans ?_
  · simp only [hn]; rfl
  · simp only [hd, if_pos hf]; rfl
  · simp only [hd, if_neg (mt refused_iff.mpr (not_not.mpr hf))]; rfl

/-- R165: the serials that the log still holds, each a value that may be absent. -/
theorem logSerials_eq (s : State) :
    logSerials s = (match s.index.ring.head? with | none => [0#8] | some r => 1#8 :: u32 r.serial)
      ++ (match s.index.ring.getLast? with | none => [0#8] | some r => 1#8 :: u32 r.serial)
      ++ (match s.index.current with | none => [0#8] | some r => 1#8 :: u32 r.serial) := by
  have field : ∀ o : Option SheetRec, optField u32 (o.map (·.serial))
      = match o with | none => [0#8] | some r => 1#8 :: u32 r.serial := fun o => by cases o <;> rfl
  simp only [logSerials, field]

theorem readIndex_accepted {s : State} {p : Port} (h : accepts s p .readIndex) (tag serial start : Nat) :
    (start = 0 → exec (.readIndex p tag serial start) s = .next (withReply p 0x9D tag .badValue [] s))
    ∧ (1 ≤ start → recordOf s serial = none →
        exec (.readIndex p tag serial start) s = .next (withReply p 0x9D tag .badHandle (logSerials s) s))
    ∧ ∀ r, 1 ≤ start → recordOf s serial = some r →
        exec (.readIndex p tag serial start) s = .next (withReply p 0x9D tag .ok (indexBody s p r start) s) := by
  have he := request_accepted h tag fun s =>
    if start < 1 then answer p .readIndex tag .badValue [] s
    else
      match recordOf s serial with
      | none => answer p .readIndex tag .badHandle (logSerials s) s
      | some r => answer p .readIndex tag .ok (indexBody s p r start) s
  refine ⟨fun h0 => ?_, fun h1 hn => ?_, fun r h1 hr => ?_⟩ <;> refine he.trans ?_
  · simp only [h0, zero_lt_one, if_true]; rfl
  · simp only [hn, if_neg (not_lt.mpr h1)]; rfl
  · simp only [hr, if_neg (not_lt.mpr h1)]; rfl

theorem readFrame_accepted {s : State} {p : Port} (h : accepts s p .readFrame) (tag serial n : Nat) :
    (recordOf s serial = none → exec (.readFrame p tag serial n) s = .next (withReply p 0x9E tag .badHandle [] s))
    ∧ ∀ r, recordOf s serial = some r →
      (n = 255 → exec (.readFrame p tag serial n) s = .next (withReply p 0x9E tag .ok (titleBody r) s))
      ∧ (n ≠ 255 → r.frames[n]? = none →
          exec (.readFrame p tag serial n) s = .next (withReply p 0x9E tag .badValue [] s))
      ∧ ∀ f, n ≠ 255 → r.frames[n]? = some f →
          ((s.ports.get p).cls = .feeder ∧ (∃ x, f.ref = some x ∧ x.owner ≠ p) →
            exec (.readFrame p tag serial n) s = .next (withReply p 0x9E tag .notOwner [] s))
          ∧ ((s.ports.get p).cls = .bureau ∨ (∀ x, f.ref = some x → x.owner = p) →
            exec (.readFrame p tag serial n) s = .next (withReply p 0x9E tag .ok (frameBody r n f) s)) := by
  have he := request_accepted h tag fun s => match recordOf s serial with
    | none => answer p .readFrame tag .badHandle [] s
    | some r =>
      if n = titleSelector then answer p .readFrame tag .ok (titleBody r) s
      else
        match r.frames[n]? with
        | none => answer p .readFrame tag .badValue [] s
        | some f =>
          if f.ref.all fun x => mayRead s p x.owner then answer p .readFrame tag .ok (frameBody r n f) s
          else answer p .readFrame tag .notOwner [] s
  have readable : ∀ f : FrameRec, (f.ref.all fun x => mayRead s p x.owner) = true
      ↔ (s.ports.get p).cls = .bureau ∨ ∀ x, f.ref = some x → x.owner = p := fun f => by
    cases f.ref <;> simp [mayRead_iff]
  refine ⟨fun hn => ?_, fun r hr => ⟨fun h0 => ?_, fun h0 hn => ?_, fun f h0 hf => ⟨fun ho => ?_, fun ho => ?_⟩⟩⟩ <;>
    refine he.trans ?_
  · simp only [hn]; rfl
  · simp only [hr, h0]; rfl
  · simp only [hr, if_neg (show n ≠ titleSelector from h0), hn]; rfl
  · obtain ⟨hc, x, hx, hne⟩ := ho
    have : ¬ (f.ref.all fun x => mayRead s p x.owner) = true := by
      rw [readable, hc]
      simp only [reduceCtorEq, false_or]
      exact fun hall => hne (hall x hx)
    simp only [hr, if_neg (show n ≠ titleSelector from h0), hf, if_neg this]; rfl
  · simp only [hr, if_neg (show n ≠ titleSelector from h0), hf, if_pos ((readable f).mpr ho)]; rfl

/-! ### The bodies, field by field -/

theorem flag_eq (b : Bool) : flag b = u8 (if b then 1 else 0) := by
  cases b <;> rfl

theorem listField_eq {α : Type} (enc : α → List Byte) (l : List α) : listField enc l = u8 l.length ++ l.flatMap enc :=
  rfl

theorem textField_eq (t : Text) : textField t = u8 t.length ++ t := rfl

/-- R185: READ STATUS. -/
theorem statusBody_fields (s : State) (p : Port) : ∃ free left : Nat,
    statusBody p s = u8 (sheetStateCode s.comp.sheet)
      ++ (match s.comp.halts with | [] => [0#8] | c :: _ => [1#8, BitVec.ofNat 8 (haltCode c)])
      ++ u32 (match s.index.current with | some r => r.serial | none => 0) ++ u32 s.comp.nextSerial
      ++ u8 free ++ u16 left ++ u16 s.film.count ++ u16 s.store.freeList.length ++ u16 (s.store.held.get p)
      ++ u16 (s.store.quota.get p) ++ u8 (s.docs.queues.get p).items.length ++ u8 (beamStateCode s.beam.state)
      ++ u8 (if (s.ports.get p).cls = .bureau then 1 else 0) ++ u8 (s.ports.get p).notices.length
      ++ u8 (if (s.ports.get p).overrun then 1 else 0)
    ∧ (s.comp.sheet = .unloaded ∨ s.comp.sheet = .idle → free = 0 ∧ left = 0)
    ∧ ∀ r, s.comp.sheet ≠ .unloaded → s.comp.sheet ≠ .idle → s.index.current = some r →
        free = r.freeFrames.length ∧ left = 96 * r.layout.index - r.entries.length := by
  refine ⟨(statusCounts s).1, (statusCounts s).2, ?_, fun h => ?_, fun r h1 h2 hr => ?_⟩
  · have halt : optField (fun c => u8 (haltCode c)) s.comp.halts.head?
        = match s.comp.halts with | [] => [0#8] | c :: _ => [1#8, BitVec.ofNat 8 (haltCode c)] := by
      cases s.comp.halts <;> rfl
    have serial : (s.index.current.map (·.serial)).getD 0
        = match s.index.current with | some r => r.serial | none => 0 := by
      cases s.index.current <;> rfl
    have cls : classCode (s.ports.get p).cls = if (s.ports.get p).cls = .bureau then 1 else 0 := by
      cases (s.ports.get p).cls <;> rfl
    simp only [statusBody, halt, serial, cls, flag_eq]
  · rcases h with h | h <;> simp [statusCounts, h]
  · unfold statusCounts
    split <;> simp_all [Layout.capacity]

/-- R45: the queue position that QUERY DOCUMENT answers. -/
theorem queuePosition_spec (q : Queue) (h : Nat) :
    ((∀ i ∈ q.items, i ≠ .doc h) → queuePosition q h = none)
    ∧ ∀ i : Nat, q.items[i]? = some (.doc h) → (∀ j < i, q.items[j]? ≠ some (.doc h)) →
        queuePosition q h = some (i, i == q.cursor) := by
  unfold queuePosition
  refine ⟨fun hn => ?_, fun i hi hj => ?_⟩
  · rw [List.findIdx?_eq_none_iff.mpr fun x hx => by simpa using hn x hx, Option.map_none]
  · obtain ⟨hl, hx⟩ := List.getElem?_eq_some_iff.mp hi
    have : q.items.findIdx? (· == .doc h) = some i :=
      List.findIdx?_eq_some_iff_getElem.mpr ⟨hl, by simp [hx], fun j hji => by
        have := hj j hji
        rw [List.getElem?_eq_getElem (hji.trans hl)] at this
        simpa using this⟩
    rw [this, Option.map_some]

/-- R45: QUERY DOCUMENT. -/
theorem documentBody_fields (s : State) (h : Nat) (d : Doc) : ∃ place : List Byte,
    documentBody s h d = u16 h ++ u8 (portCode d.owner) ++ u8 d.key.length ++ d.key
      ++ u8 (if d.cls = .keep then 0 else 1) ++ u8 (if d.stream then 1 else 0) ++ u8 (docStateCode d.state)
      ++ u8 d.placed ++ u8 d.pages.length
      ++ d.pages.flatMap (fun x => u16 x.1 ++ u8 (pageOutcomeCode x.2.outcome) ++ u8 x.2.spoils)
      ++ u8 d.sheets.length ++ d.sheets.flatMap (fun x => u32 x.serial) ++ place
    ∧ ((∀ i ∈ (s.docs.queues.get d.owner).items, i ≠ .doc h) → place = [0#8])
    ∧ ∀ i : Nat, (s.docs.queues.get d.owner).items[i]? = some (.doc h) →
        (∀ j < i, (s.docs.queues.get d.owner).items[j]? ≠ some (.doc h)) →
        place = [1#8, BitVec.ofNat 8 i, if i = (s.docs.queues.get d.owner).cursor then 1#8 else 0#8] := by
  obtain ⟨absent, present⟩ := queuePosition_spec (s.docs.queues.get d.owner) h
  refine ⟨optField (fun x : Nat × Bool => u8 x.1 ++ flag x.2) (queuePosition (s.docs.queues.get d.owner) h), ?_,
    fun hn => ?_, fun i hi hj => ?_⟩
  · have cls : docClassCode d.cls = if d.cls = .keep then 0 else 1 := by cases d.cls <;> rfl
    simp only [documentBody, textField_eq, listField_eq, flag_eq, cls, List.append_assoc]
  · rw [absent hn]
    rfl
  · rw [present i hi hj]
    by_cases hc : i = (s.docs.queues.get d.owner).cursor <;> simp [optField, flag_eq, u8, hc]

/-- R85: QUERY PAGE. -/
theorem pageBody_fields (h : Nat) (pg : Page) :
    pageBody h pg = u16 h ++ u8 (portCode pg.owner) ++ u16 pg.width ++ u16 pg.height ++ u8 pg.depth ++ u16 pg.dpi
      ++ u8 (rotationCode pg.rotation) ++ u16 pg.rowBytes ++ u16 pg.rowsPerBlock ++ u16 pg.rowMap.length
      ++ u16 pg.received ++ u8 (if pg.state = .receiving then 0 else 1)
      ++ (match pg.attached with | none => [0#8] | some d => 1#8 :: u16 d) := by
  have state : pageStateCode pg.state = if pg.state = .receiving then 0 else 1 := by cases pg.state <;> rfl
  have attached : optField u16 pg.attached = match pg.attached with | none => [0#8] | some d => 1#8 :: u16 d := by
    cases pg.attached <;> rfl
  simp only [pageBody, state, attached]

/-- R165: the entries that an examination takes, with their positions, are the first that pass the test; it names the
position after the last one examined. -/
theorem examine_spec (take : Entry → Bool) : ∀ (n pos : Nat) (l : List Entry),
    ((examine take n pos l).1.map fun x => (x.2, x.1)) = ((l.zipIdx pos).filter fun x => take x.1).take n
    ∧ ((examine take n pos l).1.length < n → (examine take n pos l).2 = 0)
    ∧ ((examine take n pos l).1 = [] → n = 0 → (examine take n pos l).2 = if l = [] then 0 else pos)
    ∧ ∀ x, (examine take n pos l).1.length = n → (examine take n pos l).1.getLast? = some x →
        (examine take n pos l).2 = if x.1 + 1 < pos + l.length then x.1 + 1 else 0
  | 0, pos, [] => by simp [examine]
  | 0, pos, e :: l => by simp [examine]
  | n + 1, pos, [] => by simp [examine]
  | n + 1, pos, e :: l => by
    unfold examine
    by_cases ht : take e
    · obtain ⟨hl, hs, h0, hx⟩ := examine_spec take n (pos + 1) l
      simp only [ht, if_true]
      refine ⟨by simp [ht, hl], fun h => hs (by simpa using h), by simp, fun x h => ?_⟩
      simp only [List.length_cons, Nat.add_right_cancel_iff] at h
      cases hr : (examine take n (pos + 1) l).1 with
      | nil =>
        rw [hr] at h
        rw [h0 hr h.symm]
        simp only [List.getLast?_singleton, Option.some.injEq]
        rintro rfl
        cases l <;> simp
      | cons y ys =>
        rw [List.getLast?_cons_cons, ← hr]
        intro hy
        rw [hx x h hy]
        simp only [List.length_cons]
        congr 1
        simp only [eq_iff_iff]
        omega
    · obtain ⟨hl, hs, h0, hx⟩ := examine_spec take (n + 1) (pos + 1) l
      simp only [ht, Bool.false_eq_true, if_false]
      refine ⟨by simpa [ht] using hl, hs, by simp, fun x h hy => ?_⟩
      rw [hx x h hy]
      simp only [List.length_cons]
      congr 1
      simp only [eq_iff_iff]
      omega

/-- R165: READ INDEX. -/
theorem indexBody_fields (s : State) (p : Port) (r : SheetRec) (start : Nat) (taken : List (Entry × Nat))
    (h1 : 1 ≤ start) (ht : taken = (((r.entries.zipIdx 1).drop (start - 1)).filter
      (fun x => (s.ports.get p).cls == .bureau || x.1.owner == p)).take 16) :
    ∃ next : Nat,
    indexBody s p r start = u32 r.serial ++ u8 (sheetStatusCode r.status)
      ++ (match r.reason with | none => [0#8] | some c => [1#8, BitVec.ofNat 8 (closeReasonCode c)])
      ++ u8 r.layoutNo ++ r.lot ++ u8 r.bank ++ u8 (titleStatusCode r.title) ++ u16 r.entries.length
      ++ u32 r.revision ++ u8 taken.length
      ++ taken.flatMap (fun x => u16 x.2 ++ u16 x.1.doc ++ u8 (portCode x.1.owner) ++ u8 x.1.key.length ++ x.1.key
          ++ u8 (entryKindCode x.1.kind) ++ u8 x.1.num ++ u8 x.1.firstPage ++ u8 x.1.pageCount
          ++ u8 x.1.runs.length ++ x.1.runs.flatMap (fun y => u8 y.first ++ u8 y.count)
          ++ (match x.1.spoiled with | none => [0#8] | some y => 1#8 :: (u32 y.1 ++ u8 y.2))
          ++ u8 (entryStatusCode (x.1.status r.frames)))
      ++ u16 next
    ∧ (taken.length < 16 → next = 0)
    ∧ ∀ x, taken.length = 16 → taken.getLast? = some x → next = if x.2 < r.entries.length then x.2 + 1 else 0 := by
  obtain ⟨hl, hs, -, hx⟩ := examine_spec (fun e => mayRead s p e.owner) 16 start (r.entries.drop (start - 1))
  generalize hexam : examine (fun e => mayRead s p e.owner) 16 start (r.entries.drop (start - 1)) = found at hl hs hx
  have drop : (r.entries.zipIdx 1).drop (start - 1) = (r.entries.drop (start - 1)).zipIdx start := by
    refine List.ext_getElem? fun i => ?_
    simp only [List.getElem?_drop, List.getElem?_zipIdx, show 1 + (start - 1 + i) = start + i by omega]
  have htaken : taken = found.1.map fun x => (x.2, x.1) := by
    rw [ht, drop, hl]
    rfl
  have reason : optField (fun c => u8 (closeReasonCode c)) r.reason
      = match r.reason with | none => [0#8] | some c => [1#8, BitVec.ofNat 8 (closeReasonCode c)] := by
    cases r.reason <;> rfl
  have field : entryField r.frames = fun x => u16 x.1 ++ u16 x.2.doc ++ u8 (portCode x.2.owner) ++ u8 x.2.key.length
      ++ x.2.key ++ u8 (entryKindCode x.2.kind) ++ u8 x.2.num ++ u8 x.2.firstPage ++ u8 x.2.pageCount
      ++ u8 x.2.runs.length ++ x.2.runs.flatMap (fun y => u8 y.first ++ u8 y.count)
      ++ (match x.2.spoiled with | none => [0#8] | some y => 1#8 :: (u32 y.1 ++ u8 y.2))
      ++ u8 (entryStatusCode (x.2.status r.frames)) := by
    funext x
    simp only [entryField, textField, listField, List.append_assoc]
    cases x.2.spoiled <;> rfl
  refine ⟨found.2, ?_, fun h => hs (by simpa [htaken] using h), fun x h hlast => ?_⟩
  · simp only [indexBody, hexam, reason, listField_eq, htaken, List.length_map, List.flatMap_map, field,
      List.append_assoc]
  · rw [htaken, List.getLast?_map, Option.map_eq_some_iff] at hlast
    obtain ⟨y, hy, rfl⟩ := hlast
    rw [hx y (by simpa [htaken] using h) hy, List.length_drop]
    have inside : y ∈ found.1 := List.mem_of_getLast? hy
    have position : start ≤ y.1 ∧ y.1 - start < (r.entries.drop (start - 1)).length := by
      have := List.mem_map_of_mem (f := fun x : Nat × Entry => (x.2, x.1)) inside
      rw [hl] at this
      have := List.mem_zipIdx (List.mem_of_mem_filter (List.mem_of_mem_take this))
      omega
    rw [List.length_drop] at position
    by_cases hlt : y.1 < r.entries.length
    · rw [if_pos hlt, if_pos (by omega)]
    · rw [if_neg hlt, if_neg (by omega)]

/-- R133: a frame report. -/
theorem reportField_fields (r : Report) :
    reportField r = u16 r.width ++ u16 r.height ++ u8 r.scale ++ u32 r.pitch ++ u32 r.ox ++ u32 r.oy
      ++ u16 r.pStart ++ u16 r.pMin ++ u16 r.pMax ++ u16 r.lines ++ u16 r.saturated
      ++ u8 (if r.isSaturated then 1 else 0) ++ u8 (if r.isDrift then 1 else 0) ++ u8 (if r.isStreamed then 1 else 0)
      ++ (match r.cause with | none => [0#8] | some c => [1#8, BitVec.ofNat 8 (causeCode c)]) := by
  have cause : optField (fun c => u8 (causeCode c)) r.cause
      = match r.cause with | none => [0#8] | some c => [1#8, BitVec.ofNat 8 (causeCode c)] := by
    cases r.cause <;> rfl
  simp only [reportField, flag_eq, cause]

/-- R166: the position of the entry that holds a frame. -/
theorem entryPosition_spec (r : SheetRec) (n : Nat) :
    ((∀ e ∈ r.entries, n ∉ e.frames) → entryPosition r n = none)
    ∧ ∀ (i : Nat) (e : Entry), r.entries[i]? = some e → n ∈ e.frames →
        (∀ j < i, ∀ e', r.entries[j]? = some e' → n ∉ e'.frames) → entryPosition r n = some (i + 1) := by
  unfold entryPosition
  refine ⟨fun hn => ?_, fun i e hi hm hj => ?_⟩
  · rw [List.findIdx?_eq_none_iff.mpr fun e he => by simpa using hn e he, Option.map_none]
  · obtain ⟨hl, rfl⟩ := List.getElem?_eq_some_iff.mp hi
    rw [List.findIdx?_eq_some_iff_getElem.mpr ⟨hl, by simpa using hm, fun j hji => by
      simpa using hj j hji _ (List.getElem?_eq_getElem (hji.trans hl))⟩, Option.map_some]

/-- R166: READ FRAME of a frame. -/
theorem frameBody_fields (r : SheetRec) (n : Nat) (f : FrameRec) : ∃ entry : List Byte,
    frameBody r n f = u32 r.serial ++ u8 n ++ frameAddress r.layout n ++ u8 (frameKindCode f.kind)
      ++ u8 (frameStateCode f.state)
      ++ (match f.ref with
          | none => [0#8]
          | some x => 1#8 :: (u16 x.page ++ u16 x.doc ++ u8 (portCode x.owner) ++ u8 x.index))
      ++ entry ++ (match f.report with | none => [0#8] | some x => 1#8 :: reportField x)
    ∧ ((∀ e ∈ r.entries, n ∉ e.frames) → entry = [0#8])
    ∧ ∀ (i : Nat) (e : Entry), r.entries[i]? = some e → n ∈ e.frames →
        (∀ j < i, ∀ e', r.entries[j]? = some e' → n ∉ e'.frames) → entry = 1#8 :: u16 (i + 1) := by
  obtain ⟨absent, present⟩ := entryPosition_spec r n
  refine ⟨optField u16 (entryPosition r n), ?_, fun hn => by rw [absent hn]; rfl,
    fun i e hi hm hj => by rw [present i e hi hm hj]; rfl⟩
  have ref : optField refField f.ref = match f.ref with
      | none => [0#8]
      | some x => 1#8 :: (u16 x.page ++ u16 x.doc ++ u8 (portCode x.owner) ++ u8 x.index) := by
    cases f.ref <;> rfl
  have report : optField reportField f.report
      = match f.report with | none => [0#8] | some x => 1#8 :: reportField x := by
    cases f.report <;> rfl
  simp only [frameBody, ref, report]

/-- R166: READ FRAME of the title. -/
theorem titleBody_fields (r : SheetRec) :
    titleBody r = u32 r.serial ++ [255#8, BitVec.ofNat 8 (titleStatusCode r.title), 0#8, 0#8]
      ++ (match r.titleReport with | none => [0#8] | some x => 1#8 :: reportField x) := by
  unfold titleBody
  cases r.titleReport <;> simp [optField, u8, titleSelector]

/-- Settles O9: each accepted query is answered from the tables, and each body is what its fields say. -/
theorem queriesChangeNothing : Obligations.QueriesChangeNothing := by
  refine ⟨fun s p tag => ⟨fun h => readStatus_accepted h tag, fun h => queryDocument_accepted h tag,
    fun h => queryPage_accepted h tag, fun h serial start named hn => ?_, fun h serial n named hn => ?_⟩,
    statusBody_fields, documentBody_fields, pageBody_fields, indexBody_fields, reportField_fields, frameBody_fields,
    titleBody_fields⟩
  · obtain ⟨bad, absent, found⟩ := readIndex_accepted h tag serial start
    rw [logSerials_eq] at absent
    rw [hn, ← recordOf_eq]
    exact ⟨bad, absent, found⟩
  · rw [hn, ← recordOf_eq]
    exact readFrame_accepted h tag serial n

end Sys2Proof.Machine.Documents

/-! ## The tests that follow an event, outside IDLE -/

namespace Sys2Proof.Machine.Documents

/-- R2: outside IDLE nothing that follows an event raises a notice. -/
theorem settle_ports_outside_idle {s : State} (h : s.comp.sheet ≠ .idle) : (settle s).ports = s.ports := by
  obtain ⟨sheet, run, age, completion, current, rendered, queue, he, -, hi, -, -⟩ :=
    passages_cases s _ (.inl (serveRetakes_cases s))
  rw [settle, he, openTest_not_idle (by simpa [hi] using h)]
  simp

/-- What the tests that follow an event leave of the record of the sheet in the stage. -/
theorem settle_record {s : State} {r : SheetRec} (h : s.comp.sheet ≠ .idle) (hr : s.index.current = some r) :
    ∃ r', (settle s).index.current = some r' ∧ RecordKept r r' := by
  have hk := (settle_from s).record h
  rw [hr] at hk
  cases hc : (settle s).index.current with
  | none => rw [hc] at hk; exact hk.elim
  | some r' => rw [hc] at hk; exact ⟨r', rfl, hk⟩

/-- What is kept of a record's number, entries and revision. -/
theorem RecordKept_entries {r r' : SheetRec} (h : RecordKept r r') :
    r'.serial = r.serial ∧ r'.entries = r.entries ∧ r'.revision = r.revision := by
  have hf := h.fields
  generalize r'.status = a, r'.reason = b, r'.title = c, r'.frames = d at hf
  subst hf
  exact ⟨rfl, rfl, rfl⟩

/-- An event of the retake list changes the run alone. -/
theorem triggerRetakes_eq (s : State) : ∃ run, triggerRetakes s = setRun run s := by
  unfold triggerRetakes
  (repeat' split) <;> exact ⟨_, rfl⟩

/-- An event of the ports changes the run alone. -/
theorem triggerPorts_eq (s : State) : ∃ run, triggerPorts s = setRun run s := by
  unfold triggerPorts
  (repeat' split) <;> exact ⟨_, rfl⟩

/-- A run that comes to its next step changes the run alone. -/
theorem reachStep_eq (s : State) : ∃ run, reachStep s = setRun run s := by
  unfold reachStep
  split <;> exact ⟨_, rfl⟩

end Sys2Proof.Machine.Documents

/-! ## The pause limit (R56, R128, R131) -/

namespace Sys2Proof.Machine.Documents

/-- R31, R56: what follows the spoil of a page that has so many spoils. -/
theorem spoilOutcome_eq (d : Doc) (count : Nat) :
    spoilOutcome d count = if 3 ≤ count then .pageLost else if d.state.isFinal then .neither else .retakeAdded := rfl

/-- R31, R56: the account of a spoil on the page of a document. -/
theorem accountSpoil_of_some {s : State} {x : PageRef} {d : Doc} (hd : docOf s x.doc = some d) (serial n : Nat)
    (cause : SpoilCause) {count : Nat} (hc : count = d.spoils x.index + 1) :
    ∃ t, accountSpoil x serial n cause s = t
      ∧ t.docs = (modDoc x.doc (Doc.modPage x.index fun m =>
          { spoils := count, outcome := if 3 ≤ count then .lost else m.outcome }) s).docs
      ∧ t.comp = { s.comp with retakes := s.comp.retakes ++ (if 3 ≤ count ∨ d.state.isFinal = true then []
          else [⟨x.page, x.doc, x.owner, x.index, count, serial, n⟩]) }
      ∧ t.ports = (notify x.owner (.frameSpoiled serial n x.doc x.index cause
          (if 3 ≤ count then .pageLost else if d.state.isFinal then .neither else .retakeAdded)) s).ports
      ∧ t.writer = s.writer ∧ t.index = s.index ∧ t.store = s.store ∧ t.now = s.now := by
  refine ⟨_, rfl, ?_⟩
  simp only [accountSpoil, hd, ← hc, spoilOutcome_eq]
  by_cases h3 : 3 ≤ count
  · simp [h3]
    rfl
  · by_cases hf : d.state.isFinal = true
    · simp [h3, hf]
      rfl
    · simp [h3, hf]
      rfl

/-- R31, R56, R116, R131: the page of a document in the frame in progress is spoiled, up to the tests that follow. -/
theorem faultFrame_of_page {s : State} {r : SheetRec} {n : Nat} {f : FrameRec} {x : PageRef} {d : Doc} {rep : Report}
    {cause : SpoilCause} (hcause : cause ≠ .abort) (hsite : s.writer.site = some (.frame n))
    (hrep : s.writer.report = some rep) (hr : s.index.current = some r) (hf : r.frames[n]? = some f)
    (hx : f.ref = some x) (hd : docOf s x.doc = some d) {count : Nat} (hc : count = d.spoils x.index + 1) :
    ∃ t, faultFrame cause s = t
      ∧ t.index.current = some (r.modFrame n fun f => { f with state := .spoiled, report := some (rep.close (some cause)) })
      ∧ t.docs = (modDoc x.doc (Doc.modPage x.index fun m =>
          { spoils := count, outcome := if 3 ≤ count then .lost else m.outcome }) s).docs
      ∧ (∃ run, t.comp = { s.comp with
          run := run
          retakes := s.comp.retakes ++ (if 3 ≤ count ∨ d.state.isFinal = true then []
            else [⟨x.page, x.doc, x.owner, x.index, count, r.serial, n⟩]) })
      ∧ t.ports = (notify x.owner (.frameSpoiled r.serial n x.doc x.index cause
          (if 3 ≤ count then .pageLost else if d.state.isFinal then .neither else .retakeAdded)) s).ports
      ∧ t.writer = idleWriter (restMode s) ∧ t.store = { s.store with wait := none } ∧ t.now = s.now := by
  have ref : writerRef s = some x := by
    simp [writerRef, writerFrame, hsite, frameOf, currentFrames, hr, hf, hx]
  obtain ⟨u, hu, udocs, ucomp, uports, -, uindex, ustore, unow⟩ := accountSpoil_of_some (x := x) (d := d)
    (s := recordOutcome (.frame n) true (some (rep.close (some cause))) s) (by simpa [docOf] using hd) r.serial n cause hc
  have spoiled : spoilFrame cause s = kickBeam (releaseWriter u) := by
    simp only [spoilFrame, hsite, hr, ref, hrep, Option.map_some, accountSite, if_neg hcause, hu]
  obtain ⟨run, hrun⟩ : ∃ run, faultFrame cause s = setRun run (spoilFrame cause s) := by
    unfold faultFrame
    dsimp only
    split
    · exact ⟨_, rfl⟩
    · exact triggerRetakes_eq _
  refine ⟨_, hrun, ?_⟩
  rw [spoiled]
  refine ⟨?_, ?_, ⟨run, ?_⟩, ?_, ?_, ?_, ?_⟩
  · simp [uindex, recordOutcome, hr]
  · simp [udocs, recordOutcome]
    rfl
  · simp [setRun, ucomp]
  · simp [uports, recordOutcome, notify]
    rfl
  · simp [releaseWriter, restMode, ucomp]
  · simp [releaseWriter, ustore]
  · simp [unow]

/-- Settles O43: the page in the paused frame is spoiled with cause PAUSE, and the tests that follow change nothing of what
the statement names. -/
theorem pauseExpirySpoilsTheFrame : Obligations.PauseExpirySpoilsTheFrame := by
  intro s r n f x d y rep p0 hmode hpause hsite hrep hr hf hkind hx hd hy hidle
  have count : y.2.spoils + 1 = d.spoils x.index + 1 := by simp [Doc.spoils, hy]
  obtain ⟨u, hu, ucurrent, udocs, ⟨run, ucomp⟩, uports, uwriter, ustore, unow⟩ :=
    faultFrame_of_page (s := reach (p0.since + p0.limit * second) s) (cause := .pause) (by decide) hsite hrep hr hf hx hd
      count
  have uidle : u.comp.sheet ≠ .idle := by rw [ucomp]; exact hidle
  obtain ⟨r', hr', kept⟩ := settle_record uidle ucurrent
  have from_u := settle_from u
  have thalts : (settle u).comp.halts = s.comp.halts := by
    rcases from_u.halts with h | ⟨h, -⟩
    · rw [h, ucomp]; rfl
    · exact absurd h uidle
  refine ⟨settle u, r', ?_, ?_, ?_, ?_, ?_, ?_, hr', (RecordKept_entries kept).1, ?_, ?_, ?_, ?_, thalts, ?_, ?_⟩
  · simp only [exec, execPauseTimerExpiry, hpause, hmode, if_true, hu]
  · rw [from_u.model.1, unow]
    rfl
  · rw [from_u.writer, uwriter]
    rfl
  · rw [from_u.writer, uwriter]
    rfl
  · rw [from_u.store, ustore]
  · have rest : u.writer.mode = if s.comp.halts = [] then .idle else .held := by rw [uwriter]; rfl
    rcases from_u.mode with h | ⟨hm, -, hh⟩
    · rw [h, rest]
    · rw [thalts] at hh
      rw [rest, hh] at hm
      cases hm
  · refine kept.frames n _ ?_ hkind
    simp [SheetRec.modFrame, hf, Report.close]
  · rw [docOf, from_u.docs, udocs]
    refine (docOf_modDoc _ _ _ _).trans ?_
    rw [if_pos rfl, show docOf (reach (p0.since + p0.limit * second) s) x.doc = some d from hd]
    rfl
  · rw [from_u.comp, ucomp]
    rfl
  · rw [settle_ports_outside_idle uidle, uports]
    rfl
  · rw [from_u.comp, ucomp]
    rfl
  · rw [from_u.store, ustore]
    rfl

end Sys2Proof.Machine.Documents

/-! ## Submitting a document (R37 to R39) -/

namespace Sys2Proof.Machine.Documents

/-- R12, R50: a change of the run and then the close test are part of what follows an event. -/
theorem closeTest_settled (run : Option ArbRun) (s : State) : SettledFrom s (settle (closeTest (setRun run s))) := by
  obtain ⟨run', hrun⟩ := serveRetakes_cases (closeTest (setRun run s))
  refine settled_from s _ ?_
  rw [hrun]
  rcases closeTest_cases (setRun run s) with he | ⟨reason, ho, he⟩ <;> rw [he]
  · exact .inl ⟨run', rfl⟩
  · exact .inr ⟨run', reason, ho, rfl⟩

theorem submitted_from (s : State) : SettledFrom s (submitted s) := by
  obtain ⟨run, hrun⟩ := triggerPorts_eq s
  rw [submitted, hrun]
  exact closeTest_settled run s

/-! ### The checks (R37) -/

/-- R37, check 1. -/
theorem checkedSubmission_eq (key : Text) (cls count : Nat) (pages : List Nat) :
    checkedSubmission key cls count pages =
      if 1 ≤ count ∧ count ≤ 64 ∧ count = pages.length ∧ 1 ≤ key.length ∧ key.length ≤ 24 ∧ cls ≤ 1 then
        some (if cls = 0 then .keep else .flow)
      else none := by
  have cls_cases : classOfCode cls = if cls ≤ 1 then some (if cls = 0 then .keep else .flow) else none :=
    match cls with
    | 0 => rfl
    | 1 => rfl
    | n + 2 => by simp [classOfCode]
  simp only [checkedSubmission, inRange, cls_cases, Bool.and_eq_true, decide_eq_true_eq]
  split_ifs <;> first | rfl | (exfalso; tauto)

/-- R37, check 2. -/
theorem pagesExist_iff {s : State} {pages : List Nat} :
    pagesExist s pages = true ↔ ∀ h ∈ pages, tableGet s.store.pages h ≠ none := by
  simp [pagesExist, Option.isSome_iff_ne_none]

/-- R37, check 3. -/
theorem pagesOwned_iff {s : State} {p : Port} {pages : List Nat} (he : ∀ h ∈ pages, tableGet s.store.pages h ≠ none) :
    pagesOwned s p pages = true ↔ ∀ h ∈ pages, ∀ pg, tableGet s.store.pages h = some pg → pg.owner = p := by
  simp only [pagesOwned, List.all_eq_true]
  refine forall₂_congr fun h hm => ?_
  cases hg : tableGet s.store.pages h with
  | none => exact absurd hg (he h hm)
  | some pg => simp

/-- R37, check 4. -/
theorem pagesFree_iff {s : State} {pages : List Nat} (he : ∀ h ∈ pages, tableGet s.store.pages h ≠ none) :
    pagesFree s pages = true
      ↔ pages.Nodup ∧ ∀ h ∈ pages, ∀ pg, tableGet s.store.pages h = some pg → pg.attached = none := by
  simp only [pagesFree, Bool.and_eq_true, decide_eq_true_eq, List.all_eq_true]
  refine and_congr_right fun _ => forall₂_congr fun h hm => ?_
  cases hg : tableGet s.store.pages h with
  | none => exact absurd hg (he h hm)
  | some pg => simp

/-- R28: the lowest handle that is not in use. -/
theorem tableFree_eq {α : Type} {t : Table α} {limit h : Nat} (hl : h < limit) (hf : tableGet t h = none)
    (hb : ∀ g < h, tableGet t g ≠ none) : tableFree t limit = some h := by
  unfold tableFree
  rw [List.find?_range_eq_some]
  exact ⟨by simp [hf], List.mem_range.mpr hl, fun g hg => by simpa [Option.isSome_iff_ne_none] using hb g hg⟩

theorem tableFree_none {α : Type} {t : Table α} {limit : Nat} (hu : ∀ h < limit, tableGet t h ≠ none) :
    tableFree t limit = none := by
  unfold tableFree
  rw [List.find?_eq_none]
  intro h hm
  simpa using hu h (List.mem_range.mp hm)

/-! ### The document that is created (R38) -/

/-- A change of the record under a handle, entry by entry. -/
theorem tableModify_eq_map {α : Type} (f : α → α) (t : Table α) (h : Nat) :
    tableModify f t h = t.map fun x => if x.1 = h then (x.1, f x.2) else x := by
  induction t with
  | nil => rfl
  | cons c t ih =>
    simp only [tableModify, List.map_cons, ih, eq_comm (a := h)]

/-- R74: the pages of a list are attached, in one update. -/
theorem attachPages_eq (h : Nat) (l : List Nat) (s : State) :
    l.foldl (fun s pg => setAttached (some h) pg s) s
      = { s with store := { s.store with pages := s.store.pages.map fun x =>
          if x.1 ∈ l then (x.1, { x.2 with attached := some h }) else x } } := by
  induction l generalizing s with
  | nil => simp
  | cons g l ih =>
    rw [List.foldl_cons, ih]
    simp only [setAttached, tableModify_eq_map, List.map_map]
    congr 2
    refine List.map_congr_left fun x _ => ?_
    by_cases hg : x.1 = g <;> by_cases hm : x.1 ∈ l <;> simp_all

theorem createDoc_eq (p : Port) (h : Nat) (key : Text) (c : DocClass) (stream : Bool) (pages : List Nat) (s : State) :
    createDoc p h (newDoc p key c stream pages) s =
      { s with
        docs :=
          { table := tablePut s.docs.table h (newDoc p key c stream pages)
            queues := s.docs.queues.set p (Queue.mk
              ((s.docs.queues.get p).items ++ [.doc h]) (s.docs.queues.get p).cursor) }
        store := { s.store with pages := s.store.pages.map fun x =>
          if x.1 ∈ pages then (x.1, { x.2 with attached := some h }) else x } } := by
  have handles : (newDoc p key c stream pages).pages.map (·.1) = pages := by simp [newDoc, Function.comp_def]
  simp only [createDoc, handles, attachPages_eq]
  rfl

/-- Settles O24: the checks are made in their order, and an accepted submission is the creation of the document followed
by the tests that follow an event. -/
theorem submitDocumentCreatesTheDocument : Obligations.SubmitDocumentCreatesTheDocument := by
  intro s p tag key cls count stream pages hacc
  have he := request_accepted hacc tag (submit p tag key cls stream count pages)
  refine ⟨fun hbad => he.trans ?_, fun h1 h2 h3 h4 h5 h6 => ?_⟩
  · simp only [submit, checkedSubmission_eq, if_neg hbad]
    rfl
  have hc : checkedSubmission key cls count pages = some (if cls = 0 then .keep else .flow) := by
    rw [checkedSubmission_eq, if_pos ⟨h1, h2, h3, h4, h5, h6⟩]
  refine ⟨fun ⟨g, hg, hn⟩ => he.trans ?_, fun hexist => ?_⟩
  · have : ¬ pagesExist s pages = true := fun h => pagesExist_iff.mp h g hg hn
    simp only [submit, hc, Bool.eq_false_iff.mpr this, Bool.not_false, if_true]
    rfl
  have exist := pagesExist_iff.mpr hexist
  refine ⟨fun ⟨g, hg, pg, hpg, hne⟩ => he.trans ?_, fun howned => ?_⟩
  · have : ¬ pagesOwned s p pages = true := fun h => hne ((pagesOwned_iff hexist).mp h g hg pg hpg)
    simp only [submit, hc, exist, Bool.eq_false_iff.mpr this, Bool.not_false, Bool.not_true, Bool.false_eq_true, if_true,
      if_false]
    rfl
  have owned := (pagesOwned_iff hexist).mpr howned
  refine ⟨fun hused => he.trans ?_, fun hnodup hfree => ?_⟩
  · have : ¬ pagesFree s pages = true := fun h => by
      obtain ⟨hn, ha⟩ := (pagesFree_iff hexist).mp h
      rcases hused with hu | ⟨g, hg, pg, hpg, hne⟩
      · exact hu hn
      · exact hne (ha g hg pg hpg)
    simp only [submit, hc, exist, owned, Bool.eq_false_iff.mpr this, Bool.not_false, Bool.not_true, Bool.false_eq_true,
      if_true, if_false]
    rfl
  have free := (pagesFree_iff hexist).mpr ⟨hnodup, hfree⟩
  refine ⟨fun hfull => he.trans ?_, fun hroom => ⟨fun hall => he.trans ?_, fun h hlt hn hbelow => ?_⟩⟩
  · simp only [submit, hc, exist, owned, free, hfull, Bool.not_true, Bool.false_eq_true, if_true, if_false]
    rfl
  · simp only [submit, hc, exist, owned, free, not_le.mpr hroom, tableFree_none hall, Bool.not_true, Bool.false_eq_true,
      if_false]
    rfl
  · refine ⟨_, he, ?_⟩
    simp only [submit, hc, exist, owned, free, not_le.mpr hroom, tableFree_eq hlt hn hbelow, Bool.not_true,
      Bool.false_eq_true, if_false, createDoc_eq, PerPort.get_set_same, List.length_append, List.length_singleton]
    exact submitted_from _

end Sys2Proof.Machine.Documents

/-! ## A document that ends: what is left of the rest of the state (R28, R32, R35) -/

namespace Sys2Proof.Machine.Documents

/-- R34, R35: of the Composer a running cursor changes the two mark sets alone. -/
theorem runCursor_comp (p : Port) (n : Nat) (s : State) :
    ∃ marks pending, (runCursor p n s).comp = { s.comp with marks := marks, pendingMarks := pending } := by
  induction n generalizing s with
  | zero => exact ⟨_, _, rfl⟩
  | succ n ih =>
    rw [runCursor]
    split
    · exact ⟨_, _, rfl⟩
    · split
      · split
        · obtain ⟨m, q, he⟩ := ih (takeMark p (modQueue p (fun q => { q with cursor := q.cursor + 1 }) s))
          rw [he]
          unfold takeMark
          split <;> exact ⟨m, q, rfl⟩
        · obtain ⟨m, q, he⟩ := ih (modQueue p (fun q => { q with cursor := q.cursor + 1 }) s)
          exact ⟨m, q, he⟩
      · exact ⟨_, _, rfl⟩

theorem advanceCursor_comp (p : Port) (s : State) :
    ∃ marks pending, (advanceCursor p s).comp = { s.comp with marks := marks, pendingMarks := pending } :=
  runCursor_comp p _ s

/-- R32, R62: of the Composer the end of a document changes the retakes, the mark sets and the owner's held flag. -/
theorem ended_comp (h : Nat) (d : Doc) (st : DocState) (s : State) :
    ∃ marks pending held, (ended h d st s).comp = { s.comp with
        retakes := s.comp.retakes.filter (·.doc != h), marks := marks, pendingMarks := pending, heldFlags := held } := by
  rcases removeItem_cases d.owner h (marked h st s) with ⟨-, he⟩ | ⟨i, m, -, hm, -, he⟩ <;> rw [ended, he]
  · exact ⟨_, _, _, rfl⟩
  · obtain ⟨marks, pending, hc⟩ := advanceCursor_comp d.owner m
    rw [hc, hm]
    split <;> exact ⟨marks, pending, _, rfl⟩

/-- R32: the end of a document is the end of its item, its retakes and its state alone. -/
theorem ended_keeps (h : Nat) (d : Doc) (st : DocState) (s : State) :
    (ended h d st s).ports = s.ports ∧ (ended h d st s).store = s.store ∧ (ended h d st s).index = s.index := by
  simp [ended, marked]

/-- R35: the other ports' queues are no matter of a document's end. -/
theorem ended_other {p : Port} {d : Doc} (hp : p ≠ d.owner) (h : Nat) (st : DocState) (s : State) :
    (ended h d st s).docs.queues.get p = s.docs.queues.get p := removeItem_other hp _ _

/-- R35: a document that has ended stands no more in its owner's queue. -/
theorem ended_gone {h : Nat} {d : Doc} {s : State} (hn : (itemDocs (s.docs.queues.get d.owner).items).Nodup)
    (st : DocState) : h ∉ itemDocs ((ended h d st s).docs.queues.get d.owner).items := removeItem_gone hn

/-- R28, R32: a document that no sheet lists is released as it becomes final. -/
theorem finalizeDoc_released {s : State} {h : Nat} {d : Doc} (hd : docOf s h = some d) {st : DocState}
    (hst : st.isFinal = true) (hs : d.sheets = []) (reason : Option Reason) :
    finalizeDoc h st reason s = releaseDoc h (announced h d st reason s) := by
  have final : docOf (announced h d st reason s) h = some { d with state := st } :=
    (docOf_announced hd st reason h).trans (if_pos rfl)
  rw [finalizeDoc_of_some hd]
  simp [testRelease, final, releasable, hst, hs]

/-- R74: a page record stands under the handle and is attached to the document. -/
def attachedTo (s : State) (h g : Nat) : Bool := (tableGet s.store.pages g).any fun pg => pg.attached == some h

/-- R28, R88: a release drops the pages attached to the document, in the order of its page list, and erases the record. -/
theorem releaseDoc_of_some {s : State} {h : Nat} {d : Doc} (hd : docOf s h = some d) :
    releaseDoc h s =
      { ((d.pages.map (·.1)).filter (attachedTo s h)).foldl (fun s g => dropPage g s) s with
        docs := { s.docs with table := tableErase s.docs.table h } } := by
  simp only [releaseDoc, hd]
  rw [List.filter_congr (q := attachedTo s h) fun g _ => by
    unfold attachedTo
    cases tableGet s.store.pages g <;> rfl]
  simp

/-- R28, R88: a record none of whose pages is attached is released alone. -/
theorem releaseDoc_detached {s : State} {h : Nat} {d : Doc} (hd : docOf s h = some d)
    (hn : ∀ g ∈ d.pages.map (·.1), ∀ pg, tableGet s.store.pages g = some pg → pg.attached ≠ some h) :
    releaseDoc h s = { s with docs := { s.docs with table := tableErase s.docs.table h } } := by
  have drops : (d.pages.map (·.1)).filter (attachedTo s h) = [] := by
    rw [List.filter_eq_nil_iff]
    intro g hg
    cases hp : tableGet s.store.pages g with
    | none => simp [attachedTo, hp]
    | some pg => simpa [attachedTo, hp] using hn g hg pg hp
  rw [releaseDoc_of_some hd, drops]
  rfl

/-- R42, R43: one page is detached. -/
theorem tableGet_detachFrom (h : Nat) (s : State) (k g : Nat) :
    tableGet (detachFrom h s k).store.pages g = (tableGet s.store.pages g).map fun pg =>
      if g = k ∧ pg.attached = some h then { pg with attached := none } else pg := by
  unfold detachFrom
  cases hk : tableGet s.store.pages k with
  | none =>
    by_cases hg : g = k
    · subst hg
      simp [hk]
    · simp [hg]
  | some r =>
    by_cases hg : g = k
    · subst hg
      by_cases ha : r.attached = some h <;> simp [ha, hk, tableGet_modify]
    · by_cases ha : r.attached = some h <;> simp [ha, hg, tableGet_modify]

/-- R42, R43: the pages of a document are detached. -/
theorem tableGet_detachPages (h : Nat) (d : Doc) (s : State) (g : Nat) :
    tableGet (detachPages h d s).store.pages g = (tableGet s.store.pages g).map fun pg =>
      if g ∈ d.pages.map (·.1) ∧ pg.attached = some h then { pg with attached := none } else pg := by
  unfold detachPages
  generalize d.pages.map (·.1) = l
  induction l generalizing s with
  | nil => simp
  | cons k l ih =>
    rw [List.foldl_cons, ih, tableGet_detachFrom, Option.map_map]
    congr 1
    funext pg
    by_cases hg : g = k <;> by_cases ha : pg.attached = some h <;> simp [hg, ha]

/-! ## What the answer to a request leaves to be seen -/

theorem raise_sent (n : Notice) (r : PortRec) : (r.raise n).sent = r.sent := by
  unfold PortRec.raise
  split <;> rfl

/-- Notices leave the replies as they are. -/
theorem lastReply_settled {s t : State} (h : SettledFrom s t) (p : Port) : lastReply t p = lastReply s p := by
  obtain ⟨raised, hr⟩ := h.ports p
  have sent : ∀ (l : List Notice) (r : PortRec), (l.foldl (fun r n => r.raise n) r).sent = r.sent := by
    intro l
    induction l with
    | nil => exact fun _ => rfl
    | cons n l ih => exact fun r => (ih _).trans (raise_sent n r)
  rw [lastReply, lastReply, hr, sent]

theorem lastReply_answer (p : Port) (k : Kind) (tag : Nat) (status : Status) (body : List Byte) (s : State) :
    lastReply (answer p k tag status body s) p = some ⟨k.code + 0x80, tag, status, body⟩ := by
  simp [lastReply, answer, sendReply]

theorem answer_notices (p q : Port) (k : Kind) (tag : Nat) (status : Status) (body : List Byte) (s : State) :
    ((answer p k tag status body s).ports.get q).notices = (s.ports.get q).notices :=
  PerPort.get_set_keep (fun r : PortRec => r.notices) _ _ _ _ rfl

end Sys2Proof.Machine.Documents

/-! ## Cancelling a document (R41 to R43) -/

namespace Sys2Proof.Machine.Documents

/-- R12: a close test does not bring a sheet to IDLE. -/
theorem closeTest_sheet_ne_idle {s : State} (h : s.comp.sheet ≠ .idle) : (closeTest s).comp.sheet ≠ .idle := by
  rcases closeTest_cases s with he | ⟨reason, -, he⟩ <;> rw [he]
  · exact h
  · simp [enterClosing]

theorem cancelled_from (s : State) : SettledFrom s (cancelled s) := submitted_from s

/-- R2: outside IDLE an accepted cancel raises no notice after its own. -/
theorem cancelled_ports {s : State} (h : s.comp.sheet ≠ .idle) : (cancelled s).ports = s.ports := by
  rw [cancelled, settle_ports_outside_idle (closeTest_sheet_ne_idle (by simpa using h))]
  simp

/-- R32, R42, R43: the document d with handle h, which no sheet lists, has been taken out between s and t: its record,
its item and its retakes are gone, its pages are detached, DOC_FINAL has gone to its owner. -/
structure TakenOut (h : Nat) (d : Doc) (s t : State) : Prop where
  docs  : ∀ g, docOf t g = if g = h then none else docOf s g
  item  : (itemDocs (s.docs.queues.get d.owner).items).Nodup → h ∉ itemDocs (t.docs.queues.get d.owner).items
  other : ∀ q : Port, q ≠ d.owner → t.docs.queues.get q = s.docs.queues.get q
  pages : ∀ g, tableGet t.store.pages g = (tableGet s.store.pages g).map fun pg =>
    if g ∈ d.pages.map (·.1) ∧ pg.attached = some h then { pg with attached := none } else pg
  store : t.store.freeList = s.store.freeList ∧ t.store.held = s.store.held ∧ t.store.memory = s.store.memory
  comp  : ∃ marks pending held, t.comp = { s.comp with
    retakes := s.comp.retakes.filter (·.doc != h), marks := marks, pendingMarks := pending, heldFlags := held }
  ports : t.ports = (notify d.owner (.docFinal h .cancelled none (d.pages.countP (·.2.outcome == .exposed))
    (d.pages.countP (·.2.outcome == .lost))) s).ports
  index : t.index = s.index

/-- R42: a document that no sheet lists is cancelled. -/
theorem cancelDoc_takenOut {s : State} {h : Nat} {d e : Doc} (hd : docOf s h = some d) (hs : d.sheets = [])
    (he : e.pages = d.pages) : TakenOut h d s (cancelDoc h e s) := by
  obtain ⟨marks, pending, held, hcomp⟩ := ended_comp h d .cancelled (detachPages h e s)
  obtain ⟨hports, hstore, hindex⟩ := ended_keeps h d .cancelled (detachPages h e s)
  have hd' : docOf (detachPages h e s) h = some d := by simpa [docOf] using hd
  have detached := tableGet_detachPages h e s
  rw [he] at detached
  have released := finalizeDoc_released hd' (st := .cancelled) rfl hs none
  rw [releaseDoc_detached ((docOf_announced hd' .cancelled none h).trans (if_pos rfl))] at released
  · rw [cancelDoc, released]
    refine ⟨fun g => ?_, ?_, fun q hq => ?_, fun g => ?_, ?_, ⟨marks, pending, held, ?_⟩, ?_, ?_⟩
    · rw [docOf, tableGet_erase]
      split
      · rfl
      · next hg =>
        refine (docOf_ended hd' .cancelled g).trans ?_
        rw [if_neg hg]
        simp [docOf]
    · intro hn
      exact ended_gone (s := detachPages h e s) (by simpa using hn) .cancelled
    · refine (ended_other hq h .cancelled (detachPages h e s)).trans ?_
      simp
    · exact (congrArg (fun x : Store => tableGet x.pages g) hstore).trans (detached g)
    · refine ⟨(congrArg Store.freeList hstore).trans ?_, (congrArg Store.held hstore).trans ?_,
        (congrArg Store.memory hstore).trans ?_⟩ <;> simp
    · refine hcomp.trans ?_
      simp
    · simp only [announced, notify, modPort, hports, detachPages_keeps]
      rfl
    · refine hindex.trans ?_
      simp
  · intro g hg pg hpg
    rw [show (announced h d .cancelled none (detachPages h e s)).store.pages = _ from
      congrArg Store.pages hstore, detached, Option.map_eq_some_iff] at hpg
    obtain ⟨pg', -, rfl⟩ := hpg
    split
    · simp
    · next hn => exact fun ha => hn ⟨hg, ha⟩

/-- R41: what a cancel of a document does once it is the requester's to cancel and may still be taken back. -/
theorem cancel_eq {s : State} {p : Port} {h : Nat} {d : Doc} (tag : Nat) (hd : docOf s h = some d)
    (howner : (s.ports.get p).cls = .bureau ∨ d.owner = p) :
    cancel p tag h s = if d.state.isFinal then answer p .cancelDocument tag .wrongState [] s
      else if onFinishedSheet s d || frameBegun s h then answer p .cancelDocument tag .tooLate [] s
      else acceptCancel p tag h d s := by
  simp only [cancel, hd, if_neg (mt refused_iff.mpr (not_not.mpr howner))]

theorem carries_iff {h : Nat} {f : FrameRec} : f.carries h = true ↔ ∃ x, f.ref = some x ∧ x.doc = h := by
  unfold FrameRec.carries
  cases f.ref <;> simp

theorem carries_eq (h : Nat) (f : FrameRec) : f.carries h = f.ref.any fun x => x.doc == h := by
  unfold FrameRec.carries
  cases f.ref <;> rfl

/-- R41, situation 5. -/
theorem frameBegun_iff {s : State} {h : Nat} : frameBegun s h = true ↔ ∃ r, s.index.current = some r
    ∧ r.status ≠ .aborted ∧ ∃ f ∈ r.frames, (∃ x, f.ref = some x ∧ x.doc = h)
      ∧ (f.state = .exposing ∨ f.state = .paused ∨ f.state = .exposed ∨ f.state = .spoiled) := by
  unfold frameBegun
  cases s.index.current with
  | none => simp
  | some r => simp [carries_iff, FrameRec.begun, or_assoc]

/-- R28, R41: a serial that no unfinished sheet carries. -/
theorem sheetUnfinished_iff {s : State} {serial : Nat} : sheetUnfinished s serial = true ↔ ∃ r, s.index.current = some r
    ∧ r.serial = serial ∧ (r.status = .opened ∨ r.status = .closed) := by
  unfold sheetUnfinished
  cases s.index.current <;> simp

/-- R41, situation 4. -/
theorem onFinishedSheet_iff {s : State} {d : Doc} :
    onFinishedSheet s d = true ↔ ∃ y ∈ d.sheets, ¬ sheetUnfinished s y.serial = true := by
  simp [onFinishedSheet]

/-- R42: the cancel of a document that is QUEUED. -/
theorem cancel_queued {s : State} {p : Port} {tag h : Nat} {d : Doc} (hd : docOf s h = some d)
    (howner : (s.ports.get p).cls = .bureau ∨ d.owner = p) (hq : d.state = .queued) (hs : d.sheets = [])
    (hf : ∀ r, s.index.current = some r → r.status = .aborted ∨ ∀ f ∈ r.frames, ∀ x, f.ref = some x → x.doc ≠ h) :
    cancel p tag h s = cancelled (answer p .cancelDocument tag .ok [] (cancelDoc h d s)) := by
  have fresh : ¬ onFinishedSheet s d = true := by simp [onFinishedSheet, hs]
  have notBegun : ¬ frameBegun s h = true := by
    rw [frameBegun_iff]
    rintro ⟨r, hr, hst, f, hm, ⟨x, hx, hdoc⟩, -⟩
    rcases hf r hr with ha | hn
    · exact hst ha
    · exact hn f hm x hx hdoc
  rw [cancel_eq tag hd howner, if_neg (by simp [hq, DocState.isFinal]), if_neg (by simp [fresh, notBegun]), acceptCancel,
    if_pos hq]

/-- R43: the record of a document that a cancel takes off the sheet in the stage. -/
def offSheet (r : SheetRec) (d : Doc) : Doc := { d with sheets := d.sheets.filter (·.serial != r.serial) }

theorem unplaceDoc_eq {s : State} {r : SheetRec} (hr : s.index.current = some r) (h : Nat) :
    unplaceDoc h s = modDoc h (offSheet r) (modCurrent (SheetRec.cancel h) s) := by
  simp only [unplaceDoc, hr]
  rfl

/-- R43: the cancel of a document that is placed on the sheet in the stage alone, no frame of it begun. -/
theorem cancel_placed {s : State} {p : Port} {tag h : Nat} {d : Doc} {r : SheetRec} (hd : docOf s h = some d)
    (howner : (s.ports.get p).cls = .bureau ∨ d.owner = p) (hst : d.state = .placing ∨ d.state = .placed)
    (hr : s.index.current = some r) (hopen : r.status = .opened ∨ r.status = .closed)
    (hs : ∀ y ∈ d.sheets, y.serial = r.serial)
    (hf : ∀ f ∈ r.frames, f.carries h = true → f.state = .placed ∨ f.state = .ready) :
    cancel p tag h s = cancelled (answer p .cancelDocument tag .ok (u8 (r.frames.countP (FrameRec.carries h)))
      (clearHeld (cancelDoc h d (unplaceDoc h s)))) := by
  have here : ¬ onFinishedSheet s d = true := by
    rw [onFinishedSheet_iff]
    rintro ⟨y, hy, hn⟩
    exact hn (sheetUnfinished_iff.mpr ⟨r, hr, (hs y hy).symm, hopen⟩)
  have notBegun : ¬ frameBegun s h = true := by
    rw [frameBegun_iff]
    rintro ⟨r', hr', -, f, hm, hx, hb⟩
    rw [hr, Option.some_inj] at hr'
    subst hr'
    rcases hf f hm (carries_iff.mpr hx) with hw | hw <;> simp [hw] at hb
  have freed : freedCount s h = r.frames.countP (FrameRec.carries h) := by
    simp only [freedCount, currentFrames, hr]
    refine List.countP_congr fun f hm => ?_
    rw [Bool.and_eq_true, and_iff_left_iff_imp]
    intro hc
    rcases hf f hm hc with hw | hw <;> simp [FrameRec.waiting, hw]
  have placed : d.state.isFinal = false ∧ d.state ≠ .queued := by
    rcases hst with h' | h' <;> rw [h'] <;> exact ⟨rfl, by decide⟩
  rw [cancel_eq tag hd howner, if_neg (by simp [placed.1]), if_neg (by simp [here, notBegun]), acceptCancel,
    if_neg placed.2, freed]

/-- R43: a document that is cancelled is gone from what the reply follows. -/
theorem TakenOut.settled {h : Nat} {d : Doc} {s u t : State} (out : TakenOut h d s u) (hdocs : t.docs = u.docs) :
    docOf t h = none ∧ (∀ g, g ≠ h → docOf t g = docOf s g)
    ∧ ((itemDocs (s.docs.queues.get d.owner).items).Nodup → h ∉ itemDocs (t.docs.queues.get d.owner).items)
    ∧ ∀ q : Port, q ≠ d.owner → t.docs.queues.get q = s.docs.queues.get q := by
  simp only [docOf, hdocs]
  exact ⟨(out.docs h).trans (if_pos rfl), fun g hg => (out.docs g).trans (if_neg hg), out.item, out.other⟩

/-- Settles O26: the refusals come in their order; a document that is taken back is taken out of queue, store and sheet,
and the tests that follow change nothing of what the statement names. -/
theorem cancelTakesTheDocumentBack : Obligations.CancelTakesTheDocumentBack := by
  intro s p tag h hacc
  have he : exec (.cancelDocument p tag h) s = .next (cancel p tag h s) := request_accepted hacc tag _
  rw [he]
  refine ⟨fun hn => ?_, fun d hd => ⟨fun hf hne => ?_, fun howner => ⟨fun hfin => ?_, fun hq hs hframes hnodup => ?_,
    fun hfin ⟨y, hy, hy'⟩ => ?_, fun r hfin hr hst ⟨f, hm, hx, hb⟩ => ?_,
    fun r hst hr hopen hs hframes hnodup hsheet => ?_⟩⟩⟩
  · simp only [cancel, hn]
    rfl
  · simp only [cancel, hd, if_pos (And.intro hf hne)]
    rfl
  · rw [cancel_eq tag hd howner, if_pos hfin]
    rfl
  · have out : TakenOut h d s (cancelDoc h d s) := cancelDoc_takenOut hd hs rfl
    obtain ⟨marks, pending, held, hcomp⟩ := out.comp
    rw [cancel_queued hd howner hq hs hframes]
    generalize hu : answer p .cancelDocument tag .ok [] (cancelDoc h d s) = u
    have udocs : u.docs = (cancelDoc h d s).docs := by rw [← hu]; rfl
    have ustore : u.store = (cancelDoc h d s).store := by rw [← hu]; rfl
    have ucomp : u.comp = (cancelDoc h d s).comp := by rw [← hu]; rfl
    have after := cancelled_from u
    obtain ⟨gone, others, item, other⟩ := out.settled (after.docs.trans udocs)
    refine ⟨_, rfl, ?_, gone, others, item hnodup, other, ?_, ?_, ?_, ?_, fun hidle => ?_, ?_, ?_⟩
    · rw [lastReply_settled after, ← hu, lastReply_answer]
      rfl
    · intro g
      rw [after.store, ustore]
      exact out.pages g
    · rw [after.store, ustore]
      exact out.store.1
    · rw [after.store, ustore]
      exact out.store.2.1
    · rw [after.comp, ucomp, hcomp]
    · rw [cancelled_ports (by rw [ucomp, hcomp]; exact hidle), ← hu, answer_notices, out.ports]
      simp [notify]
    · rw [after.comp, ucomp, hcomp]
    · rw [after.store, ustore]
      exact out.store.2.2
  · have finished : onFinishedSheet s d = true := onFinishedSheet_iff.mpr ⟨y, hy, fun hu => by
      obtain ⟨r, hr, hser, hst⟩ := sheetUnfinished_iff.mp hu
      rcases hy' r hr hser with h1 | h1 <;> rcases hst with h2 | h2 <;> rw [h1] at h2 <;> cases h2⟩
    rw [cancel_eq tag hd howner, if_neg (by simp [hfin]), if_pos (by simp [finished])]
    rfl
  · have begun : frameBegun s h = true := frameBegun_iff.mpr ⟨r, hr, hst, f, hm, hx, hb⟩
    rw [cancel_eq tag hd howner, if_neg (by simp [hfin]), if_pos (by simp [begun])]
    rfl
  · have waits : ∀ f ∈ r.frames, f.carries h = true → f.kind ≠ .index ∧ (f.state = .placed ∨ f.state = .ready) :=
      fun f hm hc => hframes f hm (carries_iff.mp hc)
    have hd' : docOf (unplaceDoc h s) h = some (offSheet r d) := by
      rw [unplaceDoc_eq hr, docOf_modDoc, if_pos rfl, show docOf (modCurrent (SheetRec.cancel h) s) h = some d from hd]
      rfl
    have unlisted : (offSheet r d).sheets = [] := by simpa [offSheet, List.filter_eq_nil_iff] using hs
    have out : TakenOut h (offSheet r d) (unplaceDoc h s) (cancelDoc h d (unplaceDoc h s)) :=
      cancelDoc_takenOut hd' unlisted rfl
    obtain ⟨marks, pending, held, hcomp⟩ := out.comp
    rw [cancel_placed hd howner hst hr hopen hs fun f hm hc => (waits f hm hc).2]
    generalize hu : answer p .cancelDocument tag .ok (u8 (r.frames.countP (FrameRec.carries h)))
      (clearHeld (cancelDoc h d (unplaceDoc h s))) = u
    have udocs : u.docs = (cancelDoc h d (unplaceDoc h s)).docs := by rw [← hu]; rfl
    have ustore : u.store = (cancelDoc h d (unplaceDoc h s)).store := by rw [← hu]; rfl
    have ucomp : u.comp = { (cancelDoc h d (unplaceDoc h s)).comp with heldFlags := everyPort false } := by
      rw [← hu]; rfl
    have ucurrent : u.index.current = some (r.cancel h) := by
      rw [← hu]
      refine (congrArg IndexUnit.current out.index).trans ?_
      rw [unplaceDoc_eq hr]
      exact congrArg (Option.map _) hr
    have same : (unplaceDoc h s).comp = s.comp ∧ (unplaceDoc h s).store = s.store ∧ (unplaceDoc h s).ports = s.ports
        ∧ (unplaceDoc h s).docs.queues = s.docs.queues := by
      rw [unplaceDoc_eq hr]
      exact ⟨rfl, rfl, rfl, rfl⟩
    have hidle : u.comp.sheet ≠ .idle := by
      rw [ucomp, hcomp, same.1]
      rcases hsheet with h1 | h1 <;> simp [h1]
    have after := cancelled_from u
    obtain ⟨gone, others, item, -⟩ := out.settled (after.docs.trans udocs)
    obtain ⟨r', hr', kept⟩ : ∃ r', (cancelled u).index.current = some r' ∧ RecordKept (r.cancel h) r' := by
      have hk := after.record hidle
      rw [ucurrent] at hk
      cases hc : (cancelled u).index.current with
      | none => rw [hc] at hk; exact hk.elim
      | some r' => rw [hc] at hk; exact ⟨r', rfl, hk⟩
    obtain ⟨serial, entries, revision⟩ := RecordKept_entries kept
    refine ⟨_, r', rfl, ?_, gone, fun g hg => (others g hg).trans ?_, item (by rw [same.2.2.2]; exact hnodup), hr', serial,
      entries, revision, fun n f hn hkind => ?_, ?_, ?_, ?_, ?_, ?_⟩
    · rw [lastReply_settled after, ← hu, lastReply_answer, funext (carries_eq h)]
      rfl
    · rw [unplaceDoc_eq hr, docOf_modDoc, if_neg hg]
      rfl
    · have freed : (FrameRec.freed h f) = if f.ref.any (fun x => x.doc == h)
          then { f with state := .free, kind := .data, ref := none } else f := by
        rw [← carries_eq]
        by_cases hc : f.carries h = true
        · have hw : f.waiting = true := by
            rcases (waits f (List.mem_of_getElem? hn) hc).2 with hw | hw <;> simp [FrameRec.waiting, hw]
          simp [FrameRec.freed, hc, hw]
        · simp [FrameRec.freed, hc]
      rw [← freed]
      refine kept.frames n _ (by simp [SheetRec.cancel, hn]) ?_
      rw [freed]
      split
      · exact FrameKind.noConfusion
      · exact hkind
    · rw [after.comp, ucomp, hcomp, same.1]
    · rw [after.comp, ucomp]
    · rw [cancelled_ports hidle, ← hu, answer_notices]
      refine (congrArg (fun x : PerPort PortRec => (x.get d.owner).notices) out.ports).trans ?_
      simp only [notify, modPort, same.2.2.1]
      exact congrArg PortRec.notices (PerPort.get_set_same _ _ _)
    · rw [after.store, ustore, out.store.1, same.2.1]
    · rw [after.comp, ucomp, hcomp, same.1]

end Sys2Proof.Machine.Documents

/-! ## Rejections: their effects (R64) -/

namespace Sys2Proof.Machine.Documents

theorem set_set {α : Type} (x : PerPort α) (p : Port) (v w : α) : (x.set p v).set p w = x.set p w := by
  cases p <;> rfl

/-! ### Pages that are dropped -/

/-- R86: of the page table a drop changes the page's own handle alone. -/
theorem tableGet_dropPage {g k : Nat} (hg : g ≠ k) (s : State) :
    tableGet (dropPage k s).store.pages g = tableGet s.store.pages g := by
  unfold dropPage
  split
  · rfl
  · simp [freePage, tableGet_erase, hg]

theorem tableGet_dropPages {g : Nat} {l : List Nat} (hg : g ∉ l) (s : State) :
    tableGet (l.foldl (fun s k => dropPage k s) s).store.pages g = tableGet s.store.pages g := by
  induction l generalizing s with
  | nil => rfl
  | cons k l ih =>
    rw [List.mem_cons, not_or] at hg
    rw [List.foldl_cons, ih hg.2, tableGet_dropPage hg.1]

/-- R84: with no PUT ROWS in flight a drop answers no port. -/
theorem dropPage_quiet {s : State} (hw : s.store.writes = []) (k : Nat) :
    (dropPage k s).ports = s.ports ∧ (dropPage k s).store.writes = [] := by
  have none : refuseWritesTo k s = s := by simp [refuseWritesTo, hw]
  unfold dropPage
  split
  · exact ⟨rfl, hw⟩
  · rw [none]
    exact ⟨rfl, hw⟩

theorem dropPages_quiet (l : List Nat) {s : State} (hw : s.store.writes = []) :
    (l.foldl (fun s k => dropPage k s) s).ports = s.ports := by
  induction l generalizing s with
  | nil => rfl
  | cons k l ih => exact (ih (dropPage_quiet hw k).2).trans (dropPage_quiet hw k).1

/-- R28, R88: of the page table a release changes handles of the document's page list alone. -/
theorem tableGet_releaseDoc {s : State} {h g : Nat} {d : Doc} (hd : docOf s h = some d)
    (hg : g ∉ d.pages.map (·.1)) : tableGet (releaseDoc h s).store.pages g = tableGet s.store.pages g := by
  rw [releaseDoc_of_some hd]
  exact tableGet_dropPages (fun hm => hg (List.mem_of_mem_filter hm)) s

theorem releaseDoc_quiet {s : State} (hw : s.store.writes = []) (h : Nat) : (releaseDoc h s).ports = s.ports := by
  cases hd : docOf s h with
  | none => simp only [releaseDoc, hd]
  | some d =>
    rw [releaseDoc_of_some hd]
    exact dropPages_quiet _ hw

/-! ### The end of a document -/

/-- R32: what the end of document d with handle h in a final state leaves of documents, pages and ports, its record being
kept or released (R28). -/
structure Ended (h : Nat) (d : Doc) (st : DocState) (reason : Option Reason) (s t : State) : Prop where
  self  : docOf t h = none ∨ docOf t h = some { d with state := st }
  gone  : d.sheets = [] → docOf t h = none
  docs  : ∀ g, g ≠ h → docOf t g = docOf s g
  pages : ∀ g ∉ d.pages.map (·.1), tableGet t.store.pages g = tableGet s.store.pages g
  ports : s.store.writes = [] → t.ports =
    (notify d.owner (.docFinal h st reason (d.countOutcome .exposed) (d.countOutcome .lost)) s).ports

theorem finalizeDoc_ended {s : State} {h : Nat} {d : Doc} (hd : docOf s h = some d) {st : DocState}
    (hst : st.isFinal = true) (reason : Option Reason) : Ended h d st reason s (finalizeDoc h st reason s) := by
  obtain ⟨hports, hstore, -⟩ := ended_keeps h d st s
  have store : (announced h d st reason s).store = s.store := hstore
  have ports : (announced h d st reason s).ports =
      (notify d.owner (.docFinal h st reason (d.countOutcome .exposed) (d.countOutcome .lost)) s).ports := by
    simp only [announced, notify, modPort, hports]
  have records := docOf_announced hd st reason
  have final : docOf (announced h d st reason s) h = some { d with state := st } := (records h).trans (if_pos rfl)
  have released : Ended h d st reason s (releaseDoc h (announced h d st reason s)) := by
    refine ⟨.inl ?_, fun _ => ?_, fun g hg => ?_, fun g hg => ?_, fun hw => ?_⟩
    · rw [docOf_releaseDoc, if_pos rfl]
    · rw [docOf_releaseDoc, if_pos rfl]
    · rw [docOf_releaseDoc, if_neg hg, records, if_neg hg]
    · rw [tableGet_releaseDoc final hg, store]
    · rw [releaseDoc_quiet (by rw [store]; exact hw), ports]
  by_cases hs : d.sheets = []
  · rw [finalizeDoc_released hd hst hs]
    exact released
  · rw [finalizeDoc_of_some hd]
    rcases testRelease_cases h (announced h d st reason s) with he | ⟨-, -, -, he⟩ <;> rw [he]
    · exact ⟨.inr final, fun he => absurd he hs, fun g hg => (records g).trans (if_neg hg), fun g _ => by rw [store],
        fun _ => ports⟩
    · exact released

/-- R32: the queues and the Composer are those of the end itself, before the notice and the release. -/
theorem finalizeDoc_queues {s : State} {h : Nat} {d : Doc} (hd : docOf s h = some d) (st : DocState)
    (reason : Option Reason) : (finalizeDoc h st reason s).docs.queues = (ended h d st s).docs.queues
      ∧ (finalizeDoc h st reason s).comp = (ended h d st s).comp
      ∧ (finalizeDoc h st reason s).index = s.index := by
  rw [finalizeDoc_of_some hd]
  simp [announced, (ended_keeps h d st s).2.2]

/-- A document that stands once in a queue has one place there. -/
theorem place_unique {l : List Item} {h i j : Nat} (hn : (itemDocs l).Nodup) (hi : l[i]? = some (.doc h))
    (hj : l[j]? = some (.doc h)) : i = j := by
  obtain ⟨before, behind⟩ := notMem_around hn hj
  rw [mem_itemDocs] at before behind
  rcases Nat.lt_trichotomy i j with hlt | heq | hgt
  · exact absurd (List.mem_of_getElem? (i := i) (by rw [List.getElem?_take_of_lt hlt, hi])) before
  · exact heq
  · refine absurd (List.mem_of_getElem? (i := i - (j + 1)) ?_) behind
    rw [List.getElem?_drop, ← hi]
    congr 1
    omega

/-- R62: the end of the document at a cursor clears the owner's held flag. -/
theorem ended_held {s : State} {h : Nat} {d : Doc} (hn : (itemDocs (s.docs.queues.get d.owner).items).Nodup)
    (hc : cursorDoc s d.owner = some h) (st : DocState) :
    (ended h d st s).comp.heldFlags = s.comp.heldFlags.set d.owner false := by
  have at_cursor := cursorDoc_iff.mp hc
  rcases removeItem_cases d.owner h (marked h st s) with ⟨hm, -⟩ | ⟨i, m, hi, hm, -, he⟩
  · exact absurd (mem_itemDocs.mpr (List.mem_of_getElem? at_cursor)) hm
  · obtain ⟨marks, pending, hcomp⟩ := advanceCursor_comp d.owner m
    have place : i = ((marked h st s).docs.queues.get d.owner).cursor := place_unique hn hi at_cursor
    rw [if_pos place] at hm
    rw [ended, he, hcomp, hm]
    rfl

/-! ### The document leaves the sheet in the stage -/

/-- R64: the rejected document's frames and entries have left the sheet in the stage, and REJECTED has gone to the port. -/
def turnedAway (p : Port) (h page : Nat) (reason : Reason) (s : State) : State :=
  notify p (.rejected h reason page) (dropSheetRef h (modCurrent (SheetRec.reject h) s))

theorem rejectEffects_eq (p : Port) (h page : Nat) (reason : Reason) (s : State) :
    rejectEffects p h reason page s =
      landHead (turnedAway p h page reason s) (holdsAfter (freedCount s h)
        (finalizeDoc h .rejected (some reason) (turnedAway p h page reason s))) := rfl

/-- R64: of the documents the sheet list of the rejected one may lose the serial, and nothing else changes. -/
theorem docOf_turnedAway {s : State} {h : Nat} {d : Doc} (hd : docOf s h = some d) (p : Port) (page : Nat)
    (reason : Reason) : ∃ sheets : List SheetRef, (d.sheets = [] → sheets = []) ∧ ∀ g,
      docOf (turnedAway p h page reason s) g = if g = h then some { d with sheets := sheets } else docOf s g := by
  have same : ∀ g, docOf s g = if g = h then some { d with sheets := d.sheets } else docOf s g := fun g => by
    split
    · next e => rw [e, hd]
    · rfl
  show ∃ sheets : List SheetRef, (d.sheets = [] → sheets = []) ∧ ∀ g,
    docOf (dropSheetRef h (modCurrent (SheetRec.reject h) s)) g =
      if g = h then some { d with sheets := sheets } else docOf s g
  unfold dropSheetRef
  split
  · exact ⟨d.sheets, id, same⟩
  · next r hr =>
    split
    · exact ⟨d.sheets, id, same⟩
    · refine ⟨d.sheets.filter (·.serial != r.serial), fun hs => by rw [hs]; rfl, fun g => ?_⟩
      rw [docOf_modDoc]
      split
      · next e =>
        rw [e, show docOf (modCurrent (SheetRec.reject h) s) h = some d from hd]
        rfl
      · rfl

/-- R62, R64: the held flags after a rejection. -/
theorem holdsAfter_held (freed : Nat) (s : State) :
    (holdsAfter freed s).comp.heldFlags = if freed = 0 then s.comp.heldFlags else everyPort false := by
  unfold holdsAfter
  split <;> rfl

theorem holdsAfter_comp (freed : Nat) (s : State) : ∃ run held, (holdsAfter freed s).comp =
    { s.comp with run := run, heldFlags := held } := by
  unfold holdsAfter
  split
  · exact ⟨_, _, rfl⟩
  · exact ⟨_, _, rfl⟩

/-- R64: the frames that a rejection frees. -/
theorem freedCount_eq_zero {s : State} {h : Nat} {r : SheetRec} (hr : s.index.current = some r) :
    freedCount s h = 0 ↔ ∀ f ∈ r.frames, f.carries h = true → f.waiting = false := by
  simp [freedCount, currentFrames, hr]

/-- What the close test within a run leaves of the Composer and of the record of the sheet in the stage. -/
theorem closeIfChanged_kept (before s : State) {r : SheetRec} (hr : s.index.current = some r) :
    (∃ sheet age completion, (closeIfChanged before s).comp =
        { s.comp with sheet := sheet, age := age, completion := completion })
      ∧ ∃ r', (closeIfChanged before s).index.current = some r' ∧ RecordKept r r' := by
  have kept : (∃ sheet age completion, s.comp = { s.comp with sheet := sheet, age := age, completion := completion })
      ∧ ∃ r', s.index.current = some r' ∧ RecordKept r r' := ⟨⟨_, _, _, rfl⟩, r, hr, .rfl' r⟩
  unfold closeIfChanged
  split
  · exact kept
  · rcases closeTest_cases s with he | ⟨reason, -, he⟩ <;> rw [he]
    · exact kept
    · refine ⟨⟨_, _, _, rfl⟩, _, ?_, .of_fields .closed (some reason)⟩
      simp [enterClosing, hr]

end Sys2Proof.Machine.Documents

namespace Sys2Proof.Machine.Documents

/-- R60: a step that rejects a document is about the document at the port's cursor. -/
theorem nextStep_rejectDoc {s : State} {p : Port} {h page : Nat} {reason : Reason}
    (e : nextStep s = some (.rejectDoc p h reason page)) : cursorDoc s p = some h := by
  unfold nextStep at e
  split at e
  · obtain ⟨run, -, hst⟩ := Option.bind_eq_some_iff.mp e
    unfold stepAt at hst
    split at hst
    · rcases retakeStep_cases hst with ⟨_, _, hx⟩ | ⟨_, hx⟩ <;> cases hx
    · obtain ⟨rfl, hc⟩ := portStep_cases.2 reason page hst
      exact hc
  · cases e

/-- R64: between s and t the document d with handle h, at the cursor of its owner p, has been rejected. -/
structure Rejected (p : Port) (h page : Nat) (reason : Reason) (d : Doc) (r : SheetRec) (s t : State) : Prop where
  self    : docOf t h = none ∨ ∃ d', docOf t h = some d' ∧ d'.state = .rejected ∧ d'.pages = d.pages
  gone    : d.sheets = [] → docOf t h = none
  docs    : ∀ g, g ≠ h → docOf t g = docOf s g
  item    : h ∉ itemDocs (t.docs.queues.get p).items
  other   : ∀ q : Port, q ≠ p → t.docs.queues.get q = s.docs.queues.get q
  pages   : ∀ g ∉ d.pages.map (·.1), tableGet t.store.pages g = tableGet s.store.pages g
  ports   : s.store.writes = [] → t.ports = s.ports.set p
    (((s.ports.get p).raise (.rejected h reason page)).raise (.docFinal h .rejected (some reason)
      (d.pages.countP (·.2.outcome == .exposed)) (d.pages.countP (·.2.outcome == .lost))))
  comp    : ∃ run marks pending, t.comp = { s.comp with
    run := run, retakes := s.comp.retakes.filter (·.doc != h), marks := marks, pendingMarks := pending
    heldFlags := if freedCount s h = 0 then s.comp.heldFlags.set p false else everyPort false }
  current : t.index.current = some (r.reject h)

theorem rejectEffects_rejected {s : State} {p : Port} {h : Nat} {d : Doc} {r : SheetRec} (page : Nat) (reason : Reason)
    (hd : docOf s h = some d) (hr : s.index.current = some r) (ho : d.owner = p)
    (hn : (itemDocs (s.docs.queues.get p).items).Nodup) (hc : cursorDoc s p = some h) :
    Rejected p h page reason d r s (rejectEffects p h reason page s) := by
  subst ho
  obtain ⟨sheets, nosheets, records⟩ := docOf_turnedAway hd d.owner page reason
  rw [rejectEffects_eq]
  have queues : (turnedAway d.owner h page reason s).docs.queues = s.docs.queues := by simp [turnedAway]
  have store : (turnedAway d.owner h page reason s).store = s.store := by simp [turnedAway]
  have comp : (turnedAway d.owner h page reason s).comp = s.comp := by simp [turnedAway]
  have ports : (turnedAway d.owner h page reason s).ports =
      s.ports.set d.owner ((s.ports.get d.owner).raise (.rejected h reason page)) := by simp [turnedAway, notify, modPort]
  have current : (turnedAway d.owner h page reason s).index.current = some (r.reject h) := by simp [turnedAway, hr]
  generalize turnedAway d.owner h page reason s = u at *
  have hd' : docOf u h = some { d with sheets := sheets } := (records h).trans (if_pos rfl)
  have fin := finalizeDoc_ended hd' (st := .rejected) rfl (some reason)
  obtain ⟨fqueues, fcomp, findex⟩ := finalizeDoc_queues hd' .rejected (some reason)
  obtain ⟨run, flags, hold⟩ := holdsAfter_comp (freedCount s h) (finalizeDoc h .rejected (some reason) u)
  obtain ⟨marks, pending, held, ecomp⟩ := ended_comp h { d with sheets := sheets } .rejected u
  have eheld := ended_held (d := { d with sheets := sheets }) (by rw [queues]; exact hn)
    (cursorDoc_iff.mpr (by rw [queues]; exact cursorDoc_iff.mp hc)) .rejected
  have flagged := holdsAfter_held (freedCount s h) (finalizeDoc h .rejected (some reason) u)
  refine ⟨?_, ?_, fun g hg => ?_, ?_, fun q hq => ?_, fun g hg => ?_, fun hw => ?_, ⟨run, marks, pending, ?_⟩, ?_⟩
  · simp only [docOf, landHead_keeps, holdsAfter_keeps]
    rcases fin.self with hx | hx
    · exact .inl hx
    · exact .inr ⟨_, hx, rfl, rfl⟩
  · simp only [docOf, landHead_keeps, holdsAfter_keeps]
    exact fun hs => fin.gone (nosheets hs)
  · simp only [docOf, landHead_keeps, holdsAfter_keeps]
    exact (fin.docs g hg).trans ((records g).trans (if_neg hg))
  · simp only [landHead_keeps, holdsAfter_keeps, fqueues]
    exact ended_gone (d := { d with sheets := sheets }) (by rw [queues]; exact hn) .rejected
  · simp only [landHead_keeps, holdsAfter_keeps, fqueues]
    rw [ended_other (d := { d with sheets := sheets }) hq, queues]
  · simp only [landHead_keeps, holdsAfter_keeps]
    rw [fin.pages g hg, store]
  · simp only [landHead_keeps, holdsAfter_keeps]
    rw [fin.ports (by rw [store]; exact hw)]
    simp only [notify, modPort, ports, Doc.countOutcome, PerPort.get_set_same, set_set]
  · rw [fcomp] at flagged
    simp only [landHead_keeps]
    rw [hold] at flagged ⊢
    simp only at flagged
    rw [flagged, fcomp, eheld, ecomp, comp]
  · simp only [landHead_keeps, holdsAfter_keeps, findex, current]

/-- R64: an entry of the rejected document, each frame taken by itself. -/
theorem frees_eq (r : SheetRec) (h n : Nat) : r.frees h n = (match r.frames[n]? with
    | some f => f.ref.any (fun x => x.doc == h) && (f.state == .placed || f.state == .ready)
    | none => false) := by
  unfold SheetRec.frees
  cases r.frames[n]? with
  | none => rfl
  | some f => simp only [carries_eq, FrameRec.waiting]

theorem cutEntry_eq (r : SheetRec) (h : Nat) (e : Entry) : cutEntry r h e =
    if e.doc ≠ h then some e
    else
      match e.frames.filter (fun n => !(match r.frames[n]? with
        | some f => f.ref.any (fun x => x.doc == h) && (f.state == .placed || f.state == .ready)
        | none => false)) with
      | [] => none
      | left => some { e with runs := runsOf left, mark := some .void } := by
  simp only [cutEntry, frees_eq]
  split
  · rfl
  · split
    · next he => rw [he]
    · next he =>
      split
      · next hx => exact absurd hx he
      · rfl

/-- R64: the entries of other documents stay. -/
theorem cutEntry_others (r : SheetRec) (h : Nat) (l : List Entry) :
    (l.filterMap (cutEntry r h)).filter (·.doc != h) = l.filter (·.doc != h) := by
  induction l with
  | nil => rfl
  | cons e l ih =>
    by_cases he : e.doc = h
    · rw [List.filter_cons_of_neg (by simp [he]), List.filterMap_cons, ← ih]
      simp only [cutEntry, he, ne_eq, not_true_eq_false, if_false]
      split
      · next hx => rfl
      · next x hx =>
        split at hx
        · cases hx
        · cases hx
          rw [List.filter_cons_of_neg (by simp)]
    · have stays : cutEntry r h e = some e := if_pos he
      rw [List.filterMap_cons_some stays, List.filter_cons_of_pos (by simp [he]),
        List.filter_cons_of_pos (by simp [he]), ih]

/-- R64: the frames of the rejected document that are PLACED or READY are freed. -/
theorem freed_eq (h : Nat) (f : FrameRec) : FrameRec.freed h f =
    if f.ref.any (fun x => x.doc == h) ∧ (f.state = .placed ∨ f.state = .ready)
    then { f with state := .free, kind := .data, ref := none } else f := by
  simp only [FrameRec.freed, carries_eq, FrameRec.waiting, Bool.and_eq_true, Bool.or_eq_true, beq_iff_eq]

/-- R64: what REJECTION does, up to the close test that may follow. -/
theorem exec_rejection {s : State} {p : Port} {h page : Nat} {reason : Reason} {d : Doc} {r : SheetRec}
    (hstep : nextStep s = some (.rejectDoc p h reason page)) (hd : docOf s h = some d) (hr : s.index.current = some r)
    (ho : d.owner = p) (hn : (itemDocs (s.docs.queues.get p).items).Nodup) :
    ∃ u, exec .rejection s = .next (closeIfChanged s u) ∧ Rejected p h page reason d r s u ∧ u.dose = s.dose := by
  obtain ⟨run, hreach⟩ := reachStep_eq s
  have out : Rejected p h page reason d r (setRun run s) (rejectEffects p h reason page (setRun run s)) :=
    rejectEffects_rejected page reason hd hr ho hn (nextStep_rejectDoc hstep :)
  refine ⟨rejectEffects p h reason page (setRun run s), ?_,
    ⟨out.self, out.gone, out.docs, out.item, out.other, out.pages, out.ports, out.comp, out.current⟩, ?_⟩
  · simp only [exec, execRejection, hstep, hreach]
  · simp [setRun]

/-- R62, R64: whether a frame is freed decides the held flags. -/
theorem rejected_held {p : Port} {h page : Nat} {reason : Reason} {d : Doc} {r : SheetRec} {s t : State}
    (hr : s.index.current = some r) (out : Rejected p h page reason d r s t) :
    ((∃ f ∈ r.frames, f.ref.any (fun x => x.doc == h) ∧ (f.state = .placed ∨ f.state = .ready)) →
        t.comp.heldFlags = everyPort false)
    ∧ ((∀ f ∈ r.frames, f.ref.any (fun x => x.doc == h) → f.state ≠ .placed ∧ f.state ≠ .ready) →
        t.comp.heldFlags = s.comp.heldFlags.set p false) := by
  obtain ⟨run, marks, pending, hc⟩ := out.comp
  have none_freed := freedCount_eq_zero (h := h) hr
  simp only [carries_eq, FrameRec.waiting, Bool.or_eq_false_iff, beq_eq_false_iff_ne] at none_freed
  rw [hc]
  refine ⟨fun ⟨f, hm, hx, hst⟩ => if_neg fun hz => ?_, fun hf => if_pos (none_freed.mpr hf)⟩
  obtain ⟨h1, h2⟩ := none_freed.mp hz f hm hx
  exact hst.elim h1 h2

end Sys2Proof.Machine.Documents

/-! ## Rejections: when a document is rejected (R64 to R66) -/

namespace Sys2Proof.Machine.Documents

/-- R60: in the port phase of an OPEN sheet the step is that of the port considered, when it is not held and has a document
at its cursor. -/
theorem nextStep_portPhase {s : State} {p : Port} {h : Nat} {r : SheetRec} {run : ArbRun} (hrun : s.comp.run = some run)
    (hphase : run.retakes = false) (hport : run.port = p) (hcount : run.count < 4) (hopen : s.comp.sheet = .open)
    (hheld : s.comp.heldFlags.get p = false) (hr : s.index.current = some r) (hfree : r.freeFrames ≠ [])
    (hc : cursorDoc s p = some h) : nextStep s = portStep s r p := by
  have here : passedOver s run.port = false := by simp [passedOver, hport, hheld, hc]
  have stands : nextRun s r run = some { run with retakes := false } := by
    have notEmpty : r.freeFrames.isEmpty = false := by simpa using hfree
    simp [nextRun, hopen, hphase, notEmpty, skipPorts, here, Nat.not_le.mpr hcount]
  simp [nextStep, hrun, hr, stands, stepAt, hport]

/-- R64: the first page that does not fit is the first of the list that is UNFIT. -/
theorem firstUnfit_eq {s : State} {l : Layout} {handles : List Nat} {i k g : Nat} (hi : handles[i]? = some g)
    (hg : handleFits s l g = false) (before : ∀ j < i, ∀ y, handles[j]? = some y → handleFits s l y = true) :
    firstUnfit s l k handles = some (k + i) := by
  induction handles generalizing i k with
  | nil => cases hi
  | cons y ys ih =>
    cases i with
    | zero =>
      cases hi
      simp [firstUnfit, hg]
    | succ i =>
      have fits : handleFits s l y = true := before 0 (Nat.succ_pos i) y rfl
      rw [firstUnfit, if_pos fits, ih hi fun j hj z hz => before (j + 1) (Nat.succ_lt_succ hj) z hz]
      congr 1
      omega

theorem handleFits_of_some {s : State} {g : Nat} {pg : Page} (hpg : tableGet s.store.pages g = some pg) (l : Layout) :
    handleFits s l g = pageFits pg l := by
  simp only [handleFits, hpg]

theorem handleFits_of_fits {s : State} {l : Layout} {g : Nat}
    (hf : ∃ pg, tableGet s.store.pages g = some pg ∧ pageFits pg l = true) : handleFits s l g = true := by
  obtain ⟨pg, hpg, hfits⟩ := hf
  rw [handleFits_of_some hpg, hfits]

/-- R64: from place `start` on, the first `count` pages of a document's list, of which the one at place i is the first that
does not fit. -/
theorem firstUnfit_of_page {s : State} {l : Layout} {d : Doc} {start count i : Nat} {x : Nat × PageMark} {pg : Page}
    (hi : i < count) (hx : d.pages[start + i]? = some x) (hpg : tableGet s.store.pages x.1 = some pg)
    (hunfit : pageFits pg l = false) (before : ∀ j < i, ∀ y, d.pages[start + j]? = some y →
      ∃ pg', tableGet s.store.pages y.1 = some pg' ∧ pageFits pg' l = true) :
    firstUnfit s l (start + 1) (((d.pages.map (·.1)).drop start).take count) = some (start + i + 1) := by
  have place : ∀ j < count, (((d.pages.map (·.1)).drop start).take count)[j]? = d.pages[start + j]?.map (·.1) :=
    fun j hj => by rw [List.getElem?_take_of_lt hj, List.getElem?_drop, List.getElem?_map]
  have hg : (((d.pages.map (·.1)).drop start).take count)[i]? = some x.1 := by rw [place i hi, hx]; rfl
  rw [firstUnfit_eq hg ((handleFits_of_some hpg l).trans hunfit) fun j hj g hj' => ?_]
  · congr 1
    omega
  · rw [place j (Nat.lt_trans hj hi), Option.map_eq_some_iff] at hj'
    obtain ⟨y, hy, rfl⟩ := hj'
    exact handleFits_of_fits (before j hj y hy)

/-- R65: the first unfit page ends the try of a KEEP document that is not too long. -/
theorem tryKeep_unfit {s : State} {r : SheetRec} {d : Doc} {i : Nat} {x : Nat × PageMark} {pg : Page}
    (hlen : d.pages.length ≤ r.layout.dataFrames) (hx : d.pages[i]? = some x)
    (hpg : tableGet s.store.pages x.1 = some pg) (hunfit : pageFits pg r.layout = false)
    (before : ∀ j < i, ∀ y, d.pages[j]? = some y →
      ∃ pg', tableGet s.store.pages y.1 = some pg' ∧ pageFits pg' r.layout = true) :
    tryKeep s r d = .reject .unfit (i + 1) := by
  have hi : i < d.pages.length := (List.getElem?_eq_some_iff.mp hx).1
  have first := firstUnfit_of_page (start := 0) (count := d.pages.length) hi (by rw [Nat.zero_add]; exact hx) hpg hunfit
    (by simpa only [Nat.zero_add] using before)
  rw [List.drop_zero, List.take_of_length_le (by simp), Nat.zero_add, Nat.zero_add] at first
  simp only [tryKeep, if_neg (Nat.not_lt.mpr hlen), first]

/-- R67: a document has no NORMAL entry on a sheet. -/
theorem normalEntry_isNone {r : SheetRec} {h : Nat} :
    (r.normalEntry h).isNone = true ↔ ∀ e ∈ r.entries, e.doc = h → e.kind ≠ .normal := by
  simp [SheetRec.normalEntry]

/-- R66, R67: the frames of the NORMAL entry of a document on a sheet. -/
def heldFrames (r : SheetRec) (h : Nat) : List Nat := ((r.normalEntry h).map Entry.frames).getD []

/-- R66: the try of a FLOW document that has candidate frames, and room for its entry. -/
theorem tryFlow_of_taken {s : State} {r : SheetRec} {h : Nat} {d : Doc} {taken : List Nat}
    (htaken : taken = flowFrames r.freeFrames (d.pages.length - d.placed) (heldFrames r h)) (hsome : taken ≠ [])
    (room : ¬ ((r.normalEntry h).isNone && r.indexFull) = true) {i : Nat}
    (first : firstUnfit s r.layout (d.placed + 1) (((d.pages.map (·.1)).drop d.placed).take taken.length) = some i) :
    tryFlow s r h d = .reject .unfit i := by
  subst htaken
  unfold heldFrames at hsome first
  unfold tryFlow
  cases he : r.normalEntry h <;> simp_all

/-- R66: the first unfit page ends the try of a FLOW document that has candidate frames and room for its entry. -/
theorem tryFlow_unfit {s : State} {r : SheetRec} {h : Nat} {d : Doc} {i : Nat} {x : Nat × PageMark} {pg : Page}
    {taken : List Nat} (htaken : taken = flowFrames r.freeFrames (d.pages.length - d.placed) (heldFrames r h))
    (hi : i < taken.length) (room : r.entries.length < 96 * r.layout.index ∨ ∃ e ∈ r.entries, e.doc = h ∧ e.kind = .normal)
    (hx : d.pages[d.placed + i]? = some x) (hpg : tableGet s.store.pages x.1 = some pg)
    (hunfit : pageFits pg r.layout = false) (before : ∀ j < i, ∀ y, d.pages[d.placed + j]? = some y →
      ∃ pg', tableGet s.store.pages y.1 = some pg' ∧ pageFits pg' r.layout = true) :
    tryFlow s r h d = .reject .unfit (d.placed + i + 1) := by
  have some_taken : taken ≠ [] := fun he => by rw [he] at hi; cases hi
  have enters : ¬ ((r.normalEntry h).isNone && r.indexFull) = true := by
    rw [Bool.and_eq_true, normalEntry_isNone]
    rintro ⟨hno, hfull⟩
    rcases room with hroom | ⟨e, hm, hdoc, hkind⟩
    · exact absurd (of_decide_eq_true hfull) (Nat.not_le.mpr hroom)
    · exact hno e hm hdoc hkind
  have first := firstUnfit_of_page hi hx hpg hunfit before
  exact tryFlow_of_taken htaken some_taken enters first

/-- Settles O29: the rejection ends the document and cuts it off the sheet, and the close test that may follow changes
nothing of what the statement names; the tries reject at the first reason. -/
theorem rejectionEndsTheCursorDocument : Obligations.RejectionEndsTheCursorDocument := by
  refine ⟨fun s p h page reason d r hstep hd hr ho hn _ => ?_,
    fun s p h d r run hrun hphase hport hcount hopen hheld hr hfree hcur hd => ?_⟩
  · obtain ⟨u, hexec, out, hdose⟩ := exec_rejection hstep hd hr ho hn
    obtain ⟨⟨sheet, age, completion, hcomp⟩, r', hr', kept⟩ := closeIfChanged_kept s u out.current
    obtain ⟨serial, entries, -⟩ := RecordKept_entries kept
    obtain ⟨run, marks, pending, ucomp⟩ := out.comp
    obtain ⟨freed, unfreed⟩ := rejected_held hr out
    have flags : (closeIfChanged s u).comp.heldFlags = u.comp.heldFlags := by rw [hcomp]
    refine ⟨_, r', hexec, ?_, ?_, ?_, ?_, ?_, hr', serial, ?_, ?_, ?_, fun n f hf hkind => ?_, ?_, ?_, ?_, ?_, ?_, ?_, ?_⟩
    · simpa only [docOf, closeIfChanged_keeps] using out.self
    · simpa only [docOf, closeIfChanged_keeps] using out.gone
    · simpa only [docOf, closeIfChanged_keeps] using out.docs
    · simpa only [closeIfChanged_keeps] using out.item
    · simpa only [closeIfChanged_keeps] using out.pages
    · rw [entries]
      exact cutEntry_others r h r.entries
    · rw [entries]
      exact congrArg (List.filterMap · r.entries) (funext (cutEntry_eq r h))
    · simpa only [closeIfChanged_keeps] using out.ports
    · rw [← freed_eq]
      refine kept.frames n _ (by simp [SheetRec.reject, hf]) ?_
      rw [freed_eq]
      split
      · exact FrameKind.noConfusion
      · exact hkind
    · rw [hcomp, ucomp]
    · exact fun hf => flags.trans (freed hf)
    · exact fun hf => flags.trans (unfreed hf)
    · simpa only [closeIfChanged_keeps] using out.other
    · rw [hcomp, ucomp]
    · rw [hcomp, ucomp]
    · simpa only [closeIfChanged_keeps] using hdose
  · have hc : cursorDoc s p = some h := cursorDoc_iff.mpr hcur
    rw [nextStep_portPhase hrun hphase hport hcount hopen hheld hr hfree hc]
    simp only [portStep, hc, hd]
    refine ⟨fun hk hlen => ?_, fun i x pg hk hlen hx hpg hunfit before => ?_,
      fun i x pg held taken hk hheld' htaken hi room hx hpg hunfit before => ?_⟩
    · simp only [tryDoc, hk, tryKeep, if_pos hlen]
    · simp only [tryDoc, hk, tryKeep_unfit hlen hx hpg hunfit before]
    · have frames : held = heldFrames r h := hheld'.trans (by
        unfold heldFrames SheetRec.normalEntry
        cases List.find? _ _ <;> rfl)
      rw [frames] at htaken
      simp only [tryDoc, hk, tryFlow_unfit htaken hi room hx hpg hunfit before]

end Sys2Proof.Machine.Documents

/-! ## A port reset: the PUT ROWS and the pages of the port (R46, R84, R89) -/

namespace Sys2Proof.Machine.Documents

/-! ### The rows in flight of other ports -/

/-- R84: no PUT ROWS of the port is in flight. -/
def NoWrites (p : Port) (s : State) : Prop := ∀ w ∈ s.store.writes, w.port ≠ p

/-- R84: between s and t no request of the port has been answered, and none of its PUT ROWS is in flight in t. -/
def Spares (p : Port) (s t : State) : Prop := NoWrites p t ∧ t.ports.get p = s.ports.get p

/-- What spares the port step by step spares it as a whole. -/
theorem foldl_spares {α : Type} {p : Port} {f : State → α → State} {l : List α}
    (hf : ∀ s, ∀ a ∈ l, NoWrites p s → Spares p s (f s a)) {s : State} (hs : NoWrites p s) : Spares p s (l.foldl f s) := by
  induction l generalizing s with
  | nil => exact ⟨hs, rfl⟩
  | cons a l ih =>
    obtain ⟨hw, hp⟩ := hf s a (by simp) hs
    obtain ⟨hw', hp'⟩ := ih (fun s b hb => hf s b (by simp [hb])) hw
    exact ⟨hw', hp'.trans hp⟩

/-- R84: the answer to another port's PUT ROWS. -/
theorem refuseWrite_spares {p : Port} {w : PendingWrite} (hw : w.port ≠ p) {s : State} (hs : NoWrites p s) :
    Spares p s (refuseWrite s w) := by
  refine ⟨fun v hv => hs v (List.mem_of_mem_filter (p := (· != w)) hv), ?_⟩
  simp only [refuseWrite, setIdle, answer, sendReply, modPort, abandonWrite]
  rw [PerPort.get_set_other _ _ hw.symm, PerPort.get_set_other _ _ hw.symm]

theorem dropPage_spares {p : Port} (k : Nat) {s : State} (hs : NoWrites p s) : Spares p s (dropPage k s) := by
  have refused : Spares p s (refuseWritesTo k s) :=
    foldl_spares (fun _ w hw h => refuseWrite_spares (hs w (List.mem_of_mem_filter hw)) h) hs
  unfold dropPage
  split
  · exact ⟨hs, rfl⟩
  · exact refused

theorem dropPages_spares {p : Port} (l : List Nat) {s : State} (hs : NoWrites p s) :
    Spares p s (l.foldl (fun s k => dropPage k s) s) :=
  foldl_spares (fun _ k _ h => dropPage_spares k h) hs

theorem releaseDoc_spares {p : Port} (h : Nat) {s : State} (hs : NoWrites p s) : Spares p s (releaseDoc h s) := by
  cases hd : docOf s h with
  | none =>
    simp only [releaseDoc, hd]
    exact ⟨hs, rfl⟩
  | some d =>
    rw [releaseDoc_of_some hd]
    exact dropPages_spares _ hs

theorem releaseDocs_spares {p : Port} (l : List Nat) {s : State} (hs : NoWrites p s) :
    Spares p s (l.foldl (fun s h => releaseDoc h s) s) :=
  foldl_spares (fun _ h _ hs => releaseDoc_spares h hs) hs

/-- R84: every PUT ROWS of a port is abandoned. -/
theorem abandonWritesOf_noWrites (p : Port) (s : State) : NoWrites p (abandonWritesOf p s) := by
  have gone : ∀ (l : List PendingWrite) (s : State) (v : PendingWrite),
      v ∈ (l.foldl (fun s w => abandonWrite w s) s).store.writes ↔ v ∈ s.store.writes ∧ v ∉ l := by
    intro l
    induction l with
    | nil => simp
    | cons w l ih =>
      intro s v
      rw [List.foldl_cons, ih]
      simp only [abandonWrite, List.mem_filter, bne_iff_ne, List.mem_cons, not_or]
      tauto
  intro v hv hp
  obtain ⟨hm, hn⟩ := (gone _ s v).mp hv
  exact hn (List.mem_filter.mpr ⟨hm, by simp [hp]⟩)

/-! ### The pages that are dropped -/

theorem mem_tableErase {α : Type} {t : Table α} {h : Nat} {x : Nat × α} : x ∈ tableErase t h ↔ x ∈ t ∧ x.1 ≠ h := by
  induction t with
  | nil => simp [tableErase]
  | cons c t ih =>
    obtain ⟨k, v⟩ := c
    rw [tableErase]
    split
    · next hk =>
      rw [ih, List.mem_cons]
      refine ⟨fun ⟨hm, hn⟩ => ⟨.inr hm, hn⟩, fun ⟨hm, hn⟩ => ⟨hm.resolve_left fun e => hn ?_, hn⟩⟩
      rw [e, hk]
    · next hk =>
      rw [List.mem_cons, ih, List.mem_cons]
      constructor
      · rintro (rfl | ⟨hm, hn⟩)
        · exact ⟨.inl rfl, fun e => hk e.symm⟩
        · exact ⟨.inr hm, hn⟩
      · rintro ⟨rfl | hm, hn⟩
        · exact .inl rfl
        · exact .inr ⟨hm, hn⟩

/-- A handle under which a table finds nothing is the handle of none of its records. -/
theorem handle_ne_of_none {α : Type} {t : Table α} {h : Nat} (hn : tableGet t h = none) {x : Nat × α} (hx : x ∈ t) :
    x.1 ≠ h := by
  induction t with
  | nil => cases hx
  | cons c t ih =>
    obtain ⟨k, v⟩ := c
    rw [tableGet] at hn
    split at hn
    · cases hn
    · next hk =>
      rcases List.mem_cons.mp hx with rfl | hm
      · exact fun e => hk e.symm
      · exact ih hn hm

/-- In a table whose handles rise a record is found under its handle. -/
theorem tableGet_of_mem {α : Type} {t : Table α} (ht : TableRising t) {x : Nat × α} (hx : x ∈ t) :
    tableGet t x.1 = some x.2 := by
  induction t with
  | nil => cases hx
  | cons c t ih =>
    obtain ⟨hhead, htail⟩ := List.pairwise_cons.mp ht
    obtain ⟨k, v⟩ := c
    rcases List.mem_cons.mp hx with rfl | hm
    · simp [tableGet]
    · rw [tableGet, if_neg (Nat.ne_of_gt (hhead x hm)), ih htail hm]

/-- R86: of the page table a drop takes the page alone. -/
theorem mem_dropPage {k : Nat} {s : State} {x : Nat × Page} :
    x ∈ (dropPage k s).store.pages ↔ x ∈ s.store.pages ∧ x.1 ≠ k := by
  unfold dropPage
  split
  · next hn => exact ⟨fun hx => ⟨hx, handle_ne_of_none hn hx⟩, fun hx => hx.1⟩
  · simp [freePage, mem_tableErase]

theorem mem_dropPages {l : List Nat} {s : State} {x : Nat × Page} :
    x ∈ (l.foldl (fun s k => dropPage k s) s).store.pages ↔ x ∈ s.store.pages ∧ x.1 ∉ l := by
  induction l generalizing s with
  | nil => simp
  | cons k l ih =>
    rw [List.foldl_cons, ih, mem_dropPage, List.mem_cons, not_or, and_assoc]

theorem mem_of_releaseDoc {h : Nat} {s : State} {x : Nat × Page} (hx : x ∈ (releaseDoc h s).store.pages) :
    x ∈ s.store.pages := by
  cases hd : docOf s h with
  | none => simpa only [releaseDoc, hd] using hx
  | some d =>
    rw [releaseDoc_of_some hd] at hx
    exact (mem_dropPages.mp hx).1

theorem mem_of_releaseDocs {l : List Nat} {s : State} {x : Nat × Page}
    (hx : x ∈ (l.foldl (fun s h => releaseDoc h s) s).store.pages) : x ∈ s.store.pages := by
  induction l generalizing s with
  | nil => exact hx
  | cons h l ih => exact mem_of_releaseDoc (ih hx)

/-- R28, R88: a page that is not attached to the document outlives its release. -/
theorem releaseDoc_page {h g : Nat} {s : State} {pg : Page} (hg : tableGet s.store.pages g = some pg)
    (hn : pg.attached ≠ some h) : tableGet (releaseDoc h s).store.pages g = some pg := by
  cases hd : docOf s h with
  | none => simpa only [releaseDoc, hd] using hg
  | some d =>
    rw [releaseDoc_of_some hd]
    refine (tableGet_dropPages (fun hm => ?_) s).trans hg
    simpa [attachedTo, hg, hn] using (List.mem_filter.mp hm).2

theorem releaseDocs_page {l : List Nat} {g : Nat} {s : State} {pg : Page} (hg : tableGet s.store.pages g = some pg)
    (hn : ∀ h ∈ l, pg.attached ≠ some h) :
    tableGet (l.foldl (fun s h => releaseDoc h s) s).store.pages g = some pg := by
  induction l generalizing s with
  | nil => exact hg
  | cons h l ih => exact ih (releaseDoc_page hg (hn h (by simp))) fun k hk => hn k (by simp [hk])

/-- R46, R89: no page of the port is left detached. -/
theorem dropDetached_attached {p : Port} {s : State} {x : Nat × Page} (hx : x ∈ (dropDetached p s).store.pages)
    (ho : x.2.owner = p) : x.2.attached ≠ none := fun ha => by
  obtain ⟨hm, hn⟩ := mem_dropPages.mp hx
  exact hn (List.mem_map_of_mem (List.mem_filter.mpr ⟨hm, by simp [ho, ha]⟩))

/-- R46, R89: a page of another port, or one that is attached, stays. -/
theorem dropDetached_page {p : Port} {s : State} {g : Nat} {pg : Page} (hg : tableGet s.store.pages g = some pg)
    (hk : pg.owner ≠ p ∨ pg.attached ≠ none) (hu : ∀ x ∈ s.store.pages, x.1 = g → x.2 = pg) :
    tableGet (dropDetached p s).store.pages g = some pg := by
  refine (tableGet_dropPages (fun hm => ?_) s).trans hg
  obtain ⟨x, hx, rfl⟩ := List.mem_map.mp hm
  obtain ⟨hx, hd⟩ := List.mem_filter.mp hx
  rw [Bool.and_eq_true, beq_iff_eq, beq_iff_eq, hu x hx rfl] at hd
  exact hk.elim (absurd hd.1) (absurd hd.2)

end Sys2Proof.Machine.Documents

/-! ## A port reset: what it leaves before and after the tests that follow (R46, R138, R186) -/

namespace Sys2Proof.Machine.Documents

/-! ### The list of requesters outside a port's reach -/

/-- R138: the port waits for no measurement and none is made for it. -/
def AsksNothing (p : Port) (s : State) : Prop := .port p ∉ s.beam.waiting ∧ .port p ∉ s.beam.serving

theorem kickBeam_asksNothing {p : Port} {s : State} (hs : AsksNothing p s) : AsksNothing p (kickBeam s) := by
  unfold kickBeam
  split
  · exact ⟨List.not_mem_nil, hs.1⟩
  · exact hs

theorem reportArrival_asksNothing {p : Port} (live : Bool) {s : State} (hs : AsksNothing p s) :
    AsksNothing p (reportArrival live s) := by
  have joined : AsksNothing p (addRequester .writer { s with writer := { s.writer with sample := some .start } }) := by
    unfold addRequester
    split
    · exact hs
    · exact ⟨by simpa using hs.1, hs.2⟩
  unfold reportArrival
  split
  · exact kickBeam_asksNothing joined
  · exact hs

theorem beginOp_asksNothing {p : Port} (op : Operation) {s : State} (hs : AsksNothing p s) :
    AsksNothing p (beginOp op s) := by
  cases op with
  | stageMove place live =>
    simp only [beginOp]
    split
    · exact reportArrival_asksNothing live hs
    · exact hs
  | leaderIn | leaderOut | opening | finishing | homing => exact hs

/-- R147: what the transport begins next is taken from the transport alone. -/
theorem nextOp_beam {s s' : State} {op : Operation} (h : nextOp s = some (s', op)) : s'.beam = s.beam := by
  have head : ∀ {s' op}, headOp s = some (s', op) → s'.beam = s.beam := fun {s' op} h => by
    unfold headOp at h
    (repeat' split at h) <;> cases h
    rfl
  unfold nextOp at h
  (repeat' split at h) <;> first | exact head h | cases h <;> rfl

theorem pumpFor_asksNothing {p : Port} (n : Nat) {s : State} (hs : AsksNothing p s) : AsksNothing p (pumpFor n s) := by
  induction n generalizing s with
  | zero => exact hs
  | succ n ih =>
    rw [pumpFor]
    split
    · next s' op h =>
      refine ih (beginOp_asksNothing op ?_)
      unfold AsksNothing
      rw [nextOp_beam h]
      exact hs
    · exact hs

/-- R137, R147: in what follows an event no port joins the list of requesters. -/
theorem settle_asksNothing {p : Port} {s : State} (hs : AsksNothing p s) : AsksNothing p (settle s) := by
  obtain ⟨sheet, run, age, completion, current, rendered, queue, he, -⟩ := passages_cases s _
    (.inl (serveRetakes_cases s))
  rw [settle, he]
  refine pumpFor_asksNothing _ ?_
  obtain ⟨ports, sheet', halts, exhausted, nextSerial, greatest, write, firstGrant, advanced, finishDue, latch, mode, count,
    queue', current', ho, -⟩ := openTest_shape { s with
      comp := { s.comp with sheet := sheet, run := run, age := age, completion := completion }
      index := { s.index with current := current, rendered := rendered }
      film := { s.film with queue := queue } }
  rw [ho]
  exact hs

/-- R2: outside IDLE no sheet of film is taken in what follows an event. -/
theorem settle_count_outside_idle {s : State} (h : s.comp.sheet ≠ .idle) : (settle s).film.count = s.film.count := by
  obtain ⟨sheet, run, age, completion, current, rendered, queue, he, -, hi, -, -⟩ :=
    passages_cases s _ (.inl (serveRetakes_cases s))
  rw [settle, he, openTest_not_idle (by simpa [hi] using h)]
  simp

/-! ### The reset itself -/

/-- R46: which items stay, as the statement has it. -/
theorem keptItems_eq (s : State) (p : Port) : keptItems s p = (s.docs.queues.get p).cursor
    + if ((cursorDoc s p).bind (docOf s)).any (fun d => d.state == .placing) then 1 else 0 := by
  unfold keptItems
  cases hc : cursorDoc s p with
  | none => simp
  | some h =>
    cases hd : docOf s h with
    | none => simp [hd]
    | some d => by_cases hp : d.state = .placing <;> simp [hd, hp]

/-- R46, R62, R84, R89, R138, R186: between s and t the port p has been reset. -/
structure PortCleared (p : Port) (s t : State) : Prop where
  record   : t.ports.get p = resetPortRec (s.ports.get p)
  writes   : NoWrites p t
  asks     : AsksNothing p t
  queues   : t.docs.queues = s.docs.queues.set p
    ⟨(s.docs.queues.get p).items.take (keptItems s p), (s.docs.queues.get p).cursor⟩
  docs     : ∀ g, docOf t g = if g ∈ droppedDocs s p then none else docOf s g
  detached : ∀ x ∈ t.store.pages, x.2.owner = p → x.2.attached ≠ none
  pages    : ∀ g pg, TableRising s.store.pages → tableGet s.store.pages g = some pg → pg.owner ≠ p ∨ pg.attached ≠ none →
    (∀ h ∈ droppedDocs s p, pg.attached ≠ some h) → tableGet t.store.pages g = some pg
  comp     : t.comp = { s.comp with
    pendingMarks := s.comp.pendingMarks.set p false
    heldFlags := if (s.docs.queues.get p).cursor < (s.docs.queues.get p).items.length
        ∧ keptItems s p = (s.docs.queues.get p).cursor
      then s.comp.heldFlags.set p false else s.comp.heldFlags }

/-- R62: the held flag of the port after its unplaced items have been removed. -/
theorem dropUnplaced_comp (p : Port) (s : State) : (dropUnplaced p s).comp = { s.comp with
    heldFlags := if (s.docs.queues.get p).cursor < (s.docs.queues.get p).items.length
        ∧ keptItems s p = (s.docs.queues.get p).cursor
      then s.comp.heldFlags.set p false else s.comp.heldFlags } := by
  have cursor_removed : (keptItems s p ≤ (s.docs.queues.get p).cursor ∧ (s.docs.queues.get p).hasUnplaced = true)
      ↔ (s.docs.queues.get p).cursor < (s.docs.queues.get p).items.length
        ∧ keptItems s p = (s.docs.queues.get p).cursor := by
    have := keptItems_ge s p
    simp only [Queue.hasUnplaced, decide_eq_true_eq]
    omega
  simp only [dropUnplaced, releaseDocs_keeps, cursor_removed]
  split <;> rfl

/-- R28, R46: the removal of the unplaced items is, for ports and store, the release of their documents. -/
theorem dropUnplaced_released (p : Port) (s : State) : ∃ u : State, u.store = s.store ∧ u.ports = s.ports
    ∧ dropUnplaced p s = (droppedDocs s p).foldl (fun s h => releaseDoc h s) u := by
  refine ⟨modQueue p (fun q => { q with items := q.items.take (keptItems s p) })
    (if keptItems s p ≤ (s.docs.queues.get p).cursor ∧ (s.docs.queues.get p).hasUnplaced then setHeld p false s else s),
    ?_, ?_, rfl⟩ <;> split <;> rfl

/-- R84, R138, R186: the port's handler, notices and requests are reset, its documents and pages not yet. -/
def handlerReset (p : Port) (s : State) : State := abandonWritesOf p (withdraw (.port p) (modPort p resetPortRec s))

/-- R46: the port's pending mark is gone. -/
def dropPendingMark (p : Port) (s : State) : State :=
  { s with comp := { s.comp with pendingMarks := s.comp.pendingMarks.set p false } }

theorem portResetCore_eq (p : Port) (s : State) : portResetCore p s = dropPendingMark p
    (landHead (withdraw (.port p) (modPort p resetPortRec s)) (dropDetached p (dropUnplaced p (handlerReset p s)))) := rfl

/-- Of documents, pages and the Composer the reset of the handler changes nothing. -/
theorem handlerReset_keeps (p : Port) (s : State) :
    (handlerReset p s).docs = s.docs ∧ (handlerReset p s).store.pages = s.store.pages
      ∧ (handlerReset p s).comp = s.comp := by
  simp [handlerReset]

theorem handlerReset_port (p : Port) (s : State) :
    (handlerReset p s).ports.get p = resetPortRec (s.ports.get p) ∧ AsksNothing p (handlerReset p s) := by
  unfold AsksNothing
  simp [handlerReset, withdraw, modPort]

theorem portResetCore_cleared (p : Port) (s : State) : PortCleared p s (portResetCore p s) := by
  have start : NoWrites p (handlerReset p s) := abandonWritesOf_noWrites p _
  obtain ⟨same, pages, comp⟩ := handlerReset_keeps p s
  obtain ⟨record, asks⟩ := handlerReset_port p s
  rw [portResetCore_eq, dropPendingMark]
  generalize handlerReset p s = a at *
  have kept : keptItems a p = keptItems s p := by simp only [keptItems, cursorDoc, docOf, same]
  have dropped : droppedDocs a p = droppedDocs s p := by simp only [droppedDocs, kept, same]
  obtain ⟨u, ustore, uports, released⟩ := dropUnplaced_released p a
  have spared : Spares p a (dropDetached p (dropUnplaced p a)) := by
    obtain ⟨w1, p1⟩ := releaseDocs_spares (droppedDocs a p) (s := u) (p := p) (by unfold NoWrites; rw [ustore]; exact start)
    rw [← released] at w1 p1
    obtain ⟨w2, p2⟩ := dropPages_spares (p := p) (((dropUnplaced p a).store.pages.filter fun x =>
      x.2.owner == p && x.2.attached == none).map (·.1)) w1
    exact ⟨w2, (p2.trans p1).trans (by rw [uports])⟩
  have left : ∀ x ∈ (dropUnplaced p a).store.pages, x ∈ s.store.pages := fun x hx => by
    rw [released] at hx
    have := mem_of_releaseDocs hx
    rwa [ustore, pages] at this
  refine ⟨?_, ?_, ?_, ?_, fun g => ?_, ?_, fun g pg rising hg hk hn => ?_, ?_⟩
  · simp only [landHead_keeps]
    exact spared.2.trans record
  · unfold NoWrites
    simp only [landHead_keeps]
    exact spared.1
  · unfold AsksNothing
    simp only [landHead_keeps, dropDetached_keeps, dropUnplaced_keeps]
    exact asks
  · simp only [landHead_keeps, dropDetached_keeps, dropUnplaced_queues, kept, same]
  · simp only [docOf, landHead_keeps, dropDetached_keeps]
    exact (docOf_dropUnplaced a p g).trans (by rw [dropped]; simp only [docOf, same])
  · simp only [landHead_keeps]
    exact fun x hx => dropDetached_attached hx
  · simp only [landHead_keeps]
    refine dropDetached_page ?_ hk fun x hx hxg => ?_
    · rw [released]
      exact releaseDocs_page (by rw [ustore, pages]; exact hg) (by rw [dropped]; exact hn)
    · have found := tableGet_of_mem rising (left x hx)
      rw [hxg, hg] at found
      exact (Option.some_inj.mp found).symm
  · simp only [landHead_keeps, dropDetached_keeps, dropUnplaced_comp, kept, same, comp]

end Sys2Proof.Machine.Documents

/-! ## A port reset: a link that goes DOWN and PORT RESET (R174, R186, R187) -/

namespace Sys2Proof.Machine.Documents

/-- R12, R62: a port reset is the reset itself, a run that may start, and the tests that follow an event. -/
theorem resetPort_eq (p : Port) (s : State) :
    ∃ run, resetPort p s = settle (closeTest (setRun run (portResetCore p s))) := by
  unfold resetPort
  dsimp only
  split
  · exact ⟨(portResetCore p s).comp.run, rfl⟩
  · obtain ⟨run, hrun⟩ := triggerPorts_eq (portResetCore p s)
    exact ⟨run, by rw [hrun]⟩

/-- R2, R137: what the tests after a port reset leave of it. -/
theorem resetPort_left (p : Port) (s : State) : SettledFrom (portResetCore p s) (resetPort p s)
    ∧ AsksNothing p (resetPort p s)
    ∧ (s.comp.sheet ≠ .idle → (resetPort p s).ports = (portResetCore p s).ports
        ∧ (resetPort p s).film.count = s.film.count) := by
  obtain ⟨run, he⟩ := resetPort_eq p s
  rw [he]
  refine ⟨closeTest_settled run _, settle_asksNothing ?_, fun hs => ?_⟩
  · unfold AsksNothing
    simp only [closeTest_keeps]
    exact (portResetCore_cleared p s).asks
  · have open_still : (closeTest (setRun run (portResetCore p s))).comp.sheet ≠ .idle :=
      closeTest_sheet_ne_idle (show (portResetCore p s).comp.sheet ≠ .idle by simpa using hs)
    refine ⟨(settle_ports_outside_idle open_still).trans ?_, (settle_count_outside_idle open_still).trans ?_⟩
    · simp only [closeTest_keeps]
      rfl
    · simp [setRun]

/-- R180: notices are a matter of a port's queue and overrun flag alone. -/
theorem raised_eq (l : List Notice) (r : PortRec) : ∃ notices overrun,
    l.foldl (fun r n => r.raise n) r = { r with notices := notices, overrun := overrun } := by
  induction l generalizing r with
  | nil => exact ⟨_, _, rfl⟩
  | cons n l ih =>
    obtain ⟨notices, overrun, he⟩ := ih (r.raise n)
    refine ⟨notices, overrun, he.trans ?_⟩
    unfold PortRec.raise
    split <;> rfl

/-- R46: how many items stay. -/
theorem kept_of_statement {s : State} {p : Port} {q : Queue} (hq : q = s.docs.queues.get p) :
    q.cursor + (if (match q.items[q.cursor]? with | some (.doc h) => docOf s h | _ => none).any
      (fun d : Doc => d.state == DocState.placing) then 1 else 0) = keptItems s p := by
  subst hq
  rw [keptItems_eq]
  unfold cursorDoc Queue.cursorItem
  cases (s.docs.queues.get p).items[(s.docs.queues.get p).cursor]? with
  | none => rfl
  | some i => cases i <;> rfl

/-- R174, R186, R187: either command resets the port, whose link record alone it treats in its own way: a link that goes
DOWN loses its replies before the reset, and PORT RESET is answered after it. -/
theorem exec_resets {s : State} {p : Port} {c : Instr} (hc : c = .linkDown p ∧ (s.ports.get p).up = true
      ∨ ∃ tag, c = .portReset p tag ∧ accepts s p .portReset) :
    ∃ before u after, u = resetPort p { s with ports := before } ∧ exec c s = .next { u with ports := after }
      ∧ (before.get p).cls = (s.ports.get p).cls
      ∧ (∃ sent, after.get p = { u.ports.get p with sent := sent })
      ∧ (c = .linkDown p → (before.get p).up = false ∧ (before.get p).sent = [] ∧ after = u.ports)
      ∧ ∀ tag, c = .portReset p tag → (before.get p).up = true
        ∧ (after.get p).sent.getLast? = some ⟨0xA4, tag, .ok, u16 (u.store.held.get p) ++ u16 u.store.freeList.length⟩ := by
  rcases hc with ⟨rfl, hup⟩ | ⟨tag, rfl, hacc⟩
  · refine ⟨s.ports.set p { s.ports.get p with up := false, sent := [] }, _, _, rfl, ?_, ?_, ⟨_, rfl⟩, fun _ => ?_,
      fun tag he => nomatch he⟩
    · simp only [exec, execLinkDown, if_pos hup]
      rfl
    · simp
    · simp
  · obtain ⟨hup, -⟩ := id hacc
    refine ⟨s.ports, resetPort p s, (answer p .portReset tag .ok (u16 ((resetPort p s).store.held.get p)
      ++ u16 (resetPort p s).store.freeList.length) (resetPort p s)).ports, rfl,
      (request_accepted hacc tag (fun s => answer p .portReset tag .ok (u16 ((resetPort p s).store.held.get p)
        ++ u16 (resetPort p s).store.freeList.length) (resetPort p s)) :), rfl, ?_,
      fun he => (nomatch he), fun tag' he => ⟨hup, ?_⟩⟩
    · exact ⟨_, PerPort.get_set_same _ _ _⟩
    · cases he
      exact lastReply_answer p .portReset tag .ok _ (resetPort p s)

/-- Settles O8: both commands reset the port, and the tests that follow touch nothing of what the statement names, save
that in IDLE a notice may be raised. -/
theorem portResetClearsThePort : Obligations.PortResetClearsThePort := by
  intro s p c q n hc hq hn
  obtain ⟨before, u, after, hu, hexec, hcls, ⟨sent, hafter⟩, hdown, hreset⟩ := exec_resets hc
  replace hn : n = keptItems s p := hn.trans (kept_of_statement hq)
  subst hq hn
  have cleared := portResetCore_cleared p { s with ports := before }
  obtain ⟨settled, asks, outside⟩ := resetPort_left p { s with ports := before }
  have keeps := resetPort_keeps p { s with ports := before }
  have dose : (portResetCore p { s with ports := before }).dose = s.dose := by simp
  rw [← hu] at settled asks outside keeps
  generalize portResetCore p { s with ports := before } = core at *
  obtain ⟨raised, hraised⟩ := settled.ports p
  obtain ⟨notices, overrun, hr⟩ := raised_eq raised (core.ports.get p)
  have record : u.ports.get p = { resetPortRec (before.get p) with notices := notices, overrun := overrun } := by
    rw [hraised, hr, cleared.record]
  have comp := settled.comp
  rw [cleared.comp] at comp
  simp only at keeps
  obtain ⟨-, -, quota, layouts, nextLayout, group, pause, completion, age, starve, cell, state, floor, drift, -, -, -, -,
    site, film, lot, factor, ring, template⟩ := keeps
  refine ⟨_, hexec, ?_, ?_, ?_, ?_, fun hs => ?_, fun he => ?_, fun tag he => ?_, ?_, asks.1, asks.2, ?_, ?_, ?_, ?_, ?_,
    ?_, ?_, fun q' hq' => ?_, quota, cell, group, layouts, nextLayout, ?_, pause, completion, age, starve, ?_, ?_, ?_,
    site, floor, drift, state, lot, factor, film, fun hs => (outside hs).2, ring, template⟩
  · rw [hafter, record]; rfl
  · rw [hafter, record]; rfl
  · rw [hafter, record]; rfl
  · rw [hafter, record]; exact hcls
  · rw [hafter, (outside hs).1, cleared.record]
    exact ⟨rfl, rfl⟩
  · obtain ⟨hup, hsent, hsame⟩ := hdown he
    rw [hsame, record]
    exact ⟨hup, hsent⟩
  · obtain ⟨hup, hlast⟩ := hreset tag he
    refine ⟨?_, hlast⟩
    rw [hafter, record]
    exact hup
  · simp only [settled.store]
    exact cleared.writes
  · simp only [settled.docs, cleared.queues, PerPort.get_set_same]
    rfl
  · intro h hm
    simp only [docOf, settled.docs]
    exact (cleared.docs h).trans (if_pos hm)
  · intro h hm
    simp only [docOf, settled.docs]
    exact (cleared.docs h).trans (if_neg hm)
  · simp only [settled.store]
    exact cleared.detached
  · simp only [settled.store]
    exact fun g pg sound => cleared.pages g pg sound.rising
  · exact (congrArg (fun c : Composer => c.pendingMarks.get p) comp).trans (PerPort.get_set_same _ _ _)
  · exact congrArg Composer.heldFlags comp
  · refine ⟨(congrArg (fun c : Composer => c.pendingMarks.get q') comp).trans (PerPort.get_set_other _ _ hq'), ?_⟩
    simp only [settled.docs, cleared.queues, PerPort.get_set_other _ _ hq']
  · exact (congrArg Composer.marks comp).trans rfl
  · exact (congrArg Composer.pointer comp).trans rfl
  · exact (congrArg Composer.retakes comp).trans rfl
  · rw [settled.dose, dose]

end Sys2Proof.Machine.Documents

/-! ## Retakes: when the first one is served (R52, R57, R58) -/

namespace Sys2Proof.Machine.Documents

theorem pageComplete_of_some {s : State} {g : Nat} {pg : Page} (hpg : tableGet s.store.pages g = some pg) :
    pageComplete s g = (pg.state == .complete) := by
  simp only [pageComplete, hpg]

/-- R57, R58: the retake phase is about the first retake whose page is COMPLETE and the lowest free data frame. -/
theorem retakeStep_first {s : State} {r : SheetRec} {f : Nat} {x : Retake} {earlier later : List Retake}
    (hlist : s.comp.retakes = earlier ++ x :: later) (before : ∀ y ∈ earlier, pageComplete s y.page = false)
    (hx : pageComplete s x.page = true) (hfree : r.freeFrames.head? = some f)
    (room : r.entries.length < 96 * r.layout.index) :
    retakeStep s r = if handleFits s r.layout x.page then some (.grantRetake x f) else some (.unfitRetake x) := by
  have first : s.comp.retakes.find? (fun y => pageComplete s y.page) = some x := by
    rw [hlist, List.find?_append, List.find?_eq_none.mpr fun y hy => by simp [before y hy],
      List.find?_cons_of_pos (p := fun y : Retake => pageComplete s y.page) hx]
    rfl
  obtain ⟨rest, free⟩ := List.head?_eq_some_iff.mp hfree
  have notFull : r.indexFull = false := decide_eq_false (Nat.not_le.mpr room)
  simp [retakeStep, first, free, notFull]

/-- R50, R57: a run in its retake phase takes the step that the phase has, on an OPEN and on a CLOSING sheet. -/
theorem nextStep_retakePhase {s : State} {r : SheetRec} {run : ArbRun} {e : ArbStep} (hrun : s.comp.run = some run)
    (hphase : run.retakes = true) (hr : s.index.current = some r) (hsheet : s.comp.sheet = .open ∨ s.comp.sheet = .closing)
    (hstep : retakeStep s r = some e) : nextStep s = some e := by
  have stands : ∃ run', nextRun s r run = some run' ∧ run'.retakes = true := by
    rcases hsheet with h | h
    · exact ⟨run, by simp [nextRun, h, hphase, hstep], hphase⟩
    · exact ⟨{ run with retakes := true }, by simp [nextRun, h, hstep], rfl⟩
  obtain ⟨run', hrun', hphase'⟩ := stands
  simp [nextStep, hrun, hr, hrun', stepAt, hphase', hstep]

/-- The first retake that is served leaves the list. -/
theorem retakes_erase_first {x : Retake} {earlier later : List Retake} (hx : x ∉ earlier) :
    (earlier ++ x :: later).erase x = earlier ++ later := by
  rw [List.erase_append_right _ hx, List.erase_cons_head]

end Sys2Proof.Machine.Documents

/-! ## Retakes: what a grant does (R53, R58, R68) -/

namespace Sys2Proof.Machine.Documents

/-- R48: a free data frame has a frame record. -/
theorem frame_of_mem_freeFrames {r : SheetRec} {f : Nat} (hf : f ∈ r.freeFrames) : ∃ fr, r.frames[f]? = some fr := by
  have free := (List.mem_filter.mp hf).2
  cases hfr : r.frames[f]? with
  | none => simp [hfr] at free
  | some fr => exact ⟨fr, rfl⟩

/-- R68: a frame placed with a page that is COMPLETE is READY. -/
theorem testReady_placeFrame {s : State} {ref : PageRef} (hc : pageComplete s ref.page = true) (kind : FrameKind)
    (fr : FrameRec) : (placeFrame kind ref fr).testReady s = { placeFrame kind ref fr with state := .ready } := by
  have ready : readyRef s kind ref = true := by
    unfold pageComplete at hc
    unfold readyRef
    split at hc
    · next pg hpg => simp [hpg, hc]
    · cases hc
  simp [FrameRec.testReady, placeFrame, ready]

/-- R14, R53: of the Composer a grant notes its moment alone. -/
theorem noteGrant_comp (s : State) :
    ∃ first age, (noteGrant s).comp = { s.comp with firstGrant := first, age := age } := by
  unfold noteGrant
  split <;> exact ⟨_, _, rfl⟩

/-- R163: the entry of a retake that is granted a frame. -/
def retakeEntry (x : Retake) (d : Doc) (f : Nat) : Entry :=
  { doc := x.doc, owner := x.owner, key := d.key, kind := .retake, num := x.num, firstPage := x.index
    pageCount := 1, runs := [⟨f, 1⟩], spoiled := some (x.serial, x.frame), mark := none }

/-- R51: the page reference of a retake. -/
def retakeRef (x : Retake) : PageRef := ⟨x.page, x.doc, x.owner, x.index⟩

/-- R53, R58: between s and t the retake x of document d has been granted frame f of the sheet r. -/
structure RetakeGranted (x : Retake) (f : Nat) (d : Doc) (r : SheetRec) (s t : State) : Prop where
  docs    : t.docs = (modDoc x.doc (fun d => { d with sheets := addSheetRef r.serial false d.sheets }) s).docs
  store   : t.store = s.store
  ports   : t.ports = (notify x.owner (.placed r.serial x.doc .retake x.num x.index 1 [⟨f, 1⟩] x.serial x.frame) s).ports
  comp    : ∃ run first age, t.comp =
    { s.comp with run := run, retakes := s.comp.retakes.erase x, firstGrant := first, age := age }
  current : ∃ r', t.index.current = some r' ∧ r'.serial = r.serial ∧ r'.entries = r.entries ++ [retakeEntry x d f]
    ∧ ∀ fr, r.frames[f]? = some fr → pageComplete s x.page = true →
        r'.frames[f]? = some { placeFrame .retake (retakeRef x) fr with state := .ready }

/-- R68: what a test for readiness leaves of the record of the sheet in the stage, and of each frame. -/
theorem testReadyFrames_record {s : State} {r : SheetRec} (hr : s.index.current = some r) (p : FrameRec → Bool) :
    ∃ r', (testReadyFrames p s).index.current = some r' ∧ r'.serial = r.serial ∧ r'.entries = r.entries
      ∧ ∀ (n : Nat) fr, r.frames[n]? = some fr → r'.frames[n]? = some (if p fr then fr.testReady s else fr) :=
  ⟨_, congrArg (Option.map _) hr, rfl, rfl, fun n fr hfr => by rw [List.getElem?_map, hfr]; rfl⟩

theorem grantRetakeFrame_granted {s : State} (x : Retake) (f : Nat) (d : Doc) {r : SheetRec}
    (hr : s.index.current = some r) : RetakeGranted x f d r s (grantRetakeFrame x d r f s) := by
  obtain ⟨u, hu, docs, store, ports, comp, current⟩ : ∃ u,
      grantRetakeFrame x d r f s = noteGrant (testReadyFrames
        (fun f => match f.ref with | some y => y.page == x.page | none => false) u)
      ∧ u.docs = (modDoc x.doc (fun d => { d with sheets := addSheetRef r.serial false d.sheets }) s).docs
      ∧ u.store = s.store
      ∧ u.ports = (notify x.owner
          (.placed r.serial x.doc .retake x.num x.index 1 [⟨f, 1⟩] x.serial x.frame) s).ports
      ∧ u.comp = { s.comp with retakes := s.comp.retakes.erase x }
      ∧ u.index.current = s.index.current.map fun r =>
          { r.modFrame f (placeFrame .retake (retakeRef x)) with entries := r.entries ++ [retakeEntry x d f] } :=
    ⟨_, rfl, rfl, rfl, rfl, rfl, rfl⟩
  rw [hr] at current
  rw [hu]
  refine ⟨by simpa using docs, by simpa using store, by simpa using ports, ?_, ?_⟩
  · obtain ⟨first, age, noted⟩ := noteGrant_comp (testReadyFrames _ u)
    exact ⟨_, first, age, by rw [noted, testReadyFrames_comp, comp]⟩
  · obtain ⟨r', hr', serial, entries, frames⟩ := testReadyFrames_record current _
    refine ⟨r', by simpa using hr', serial, entries, fun fr hfr complete => ?_⟩
    have placed : (r.modFrame f (placeFrame .retake (retakeRef x))).frames[f]? =
        some (placeFrame .retake (retakeRef x) fr) := by
      simp [SheetRec.modFrame, hfr]
    have complete' : pageComplete u (retakeRef x).page = true := by
      simp only [pageComplete, store]
      exact complete
    refine (frames f _ placed).trans ?_
    rw [testReady_placeFrame complete']
    exact congrArg some (if_pos (beq_self_eq_true x.page))

theorem grantToRetake_granted {s : State} {x : Retake} {d : Doc} {r : SheetRec} (f : Nat)
    (hd : docOf s x.doc = some d) (hr : s.index.current = some r) :
    RetakeGranted x f d r s (grantToRetake x f s) := by
  have out := grantRetakeFrame_granted x f d hr
  obtain ⟨run, first, age, comp⟩ := out.comp
  simp only [grantToRetake, hd, hr]
  exact ⟨out.docs, out.store, out.ports, ⟨_, first, age, by simp only [modRun, comp]; rfl⟩, out.current⟩

/-- R53, R58: GRANT, when the run's next step is a retake's. -/
theorem exec_grant_retake {s : State} {x : Retake} {f : Nat} {d : Doc} {r : SheetRec}
    (hstep : nextStep s = some (.grantRetake x f)) (hd : docOf s x.doc = some d) (hr : s.index.current = some r) :
    ∃ t, exec .grant s = .next t ∧ RetakeGranted x f d r s t := by
  obtain ⟨run, hreach⟩ := reachStep_eq s
  have out : RetakeGranted x f d r (setRun run s) (grantToRetake x f (setRun run s)) := grantToRetake_granted f hd hr
  exact ⟨_, by simp only [exec, execGrant, hstep, hreach], out.docs, out.store, out.ports, out.comp, out.current⟩

/-- R58: RETAKE_UNFIT, when the run's next step finds a retake UNFIT. -/
theorem exec_retakeUnfit {s : State} {x : Retake} (hstep : nextStep s = some (.unfitRetake x)) :
    ∃ run, exec .retakeUnfit s = .next (loseRetake x (setRun run s)) := by
  obtain ⟨run, hreach⟩ := reachStep_eq s
  exact ⟨run, by simp only [exec, execRetakeUnfit, hstep, hreach]⟩

/-- Settles O28: the next step of the run is about the first retake whose page is COMPLETE, and its event grants it the
lowest free frame, which is READY at once, or makes its page LOST. -/
theorem retakesAreGrantedOrLost : Obligations.RetakesAreGrantedOrLost := by
  intro s f x earlier later d pg r run hrun hphase hr hsheet hlist before hfirst hpg hstate hd hfree room
  have complete : pageComplete s x.page = true := by rw [pageComplete_of_some hpg, hstate]; rfl
  have step := retakeStep_first hlist before complete hfree room
  rw [handleFits_of_some hpg] at step
  refine ⟨fun fits => ?_, fun unfit => ?_⟩
  · rw [if_pos fits] at step
    obtain ⟨t, hexec, out⟩ := exec_grant_retake (nextStep_retakePhase hrun hphase hr hsheet step) hd hr
    obtain ⟨run', first, age, comp⟩ := out.comp
    obtain ⟨r', hr', serial, entries, frames⟩ := out.current
    obtain ⟨fr, hfr⟩ := frame_of_mem_freeFrames (List.mem_of_head? hfree)
    refine ⟨t, r', hexec, ?_, ?_, hr', serial, entries, ⟨_, frames fr hfr complete, rfl, rfl, rfl⟩, out.store, ?_, ?_,
      out.ports, ?_, ?_⟩
    · rw [comp]
      exact (congrArg (·.erase x) hlist).trans (retakes_erase_first hfirst)
    · rw [docOf, out.docs]
      exact (docOf_modDoc _ _ s _).trans ((if_pos rfl).trans (congrArg (Option.map _) hd))
    · rw [comp]
    · rw [out.docs]; rfl
    · rw [comp]
    · rw [comp]
  · rw [if_neg (by simp [unfit])] at step
    obtain ⟨run', hexec⟩ := exec_retakeUnfit (nextStep_retakePhase hrun hphase hr hsheet step)
    refine ⟨_, hexec, ?_, ?_, ⟨r, hr, rfl⟩, rfl, rfl, rfl, rfl, rfl⟩
    · exact (congrArg (·.erase x) hlist).trans (retakes_erase_first hfirst)
    · exact (docOf_modDoc _ _ _ _).trans ((if_pos rfl).trans (congrArg (Option.map _) hd))

end Sys2Proof.Machine.Documents

/-! ## The Image Store: the block map and the page table under its operations (R71, R76, R86) -/

namespace Sys2Proof.Machine.ImageStore

open Documents

/-! ### The block map -/

/-- R86: freeing blocks makes FREE the records of those blocks, and no other. -/
theorem getElem?_freeBlocks (l : List Nat) (m : List (Option BlockUse)) (b : Nat) :
    (l.foldl (fun m b => m.set b none) m)[b]? = if b ∈ l ∧ b < m.length then some none else m[b]? := by
  induction l generalizing m with
  | nil => simp
  | cons a l ih =>
    rw [List.foldl_cons, ih, List.length_set, List.getElem?_set]
    by_cases hl : b ∈ l <;> by_cases ha : a = b <;> by_cases hb : b < m.length <;> simp_all [eq_comm]

@[simp] theorem length_freeBlocks (l : List Nat) (m : List (Option BlockUse)) :
    (l.foldl (fun m b => m.set b none) m).length = m.length := by
  induction l generalizing m with
  | nil => rfl
  | cons a l ih => rw [List.foldl_cons, ih, List.length_set]

@[simp] theorem length_markBlocks (h i : Nat) (l : List Nat) (m : List (Option BlockUse)) :
    (markBlocks h i l m).length = m.length := by
  induction l generalizing i m with
  | nil => rfl
  | cons a l ih => rw [markBlocks, ih, List.length_set]

/-- R76: marking blocks leaves the records of other blocks. -/
theorem getElem?_markBlocks_of_notMem {l : List Nat} {b : Nat} (hb : b ∉ l) (h i : Nat) (m : List (Option BlockUse)) :
    (markBlocks h i l m)[b]? = m[b]? := by
  induction l generalizing i m with
  | nil => rfl
  | cons a l ih =>
    rw [List.mem_cons, not_or] at hb
    rw [markBlocks, ih hb.2, List.getElem?_set_ne (Ne.symm hb.1)]

/-- R71, R76: a marked block has the page and its position on record. -/
theorem getElem?_markBlocks {l : List Nat} (hl : l.Nodup) {j b : Nat} (hj : l[j]? = some b) (h i : Nat)
    {m : List (Option BlockUse)} (hb : b < m.length) : (markBlocks h i l m)[b]? = some (some ⟨h, i + j⟩) := by
  induction l generalizing i j m with
  | nil => simp at hj
  | cons a l ih =>
    obtain ⟨ha, hn⟩ := List.nodup_cons.mp hl
    rw [markBlocks]
    cases j with
    | zero =>
      obtain rfl : a = b := by simpa using hj
      rw [getElem?_markBlocks_of_notMem ha, List.getElem?_set_self hb, Nat.add_zero]
    | succ j => rw [ih hn (by simpa using hj) (i + 1) (by simpa using hb), Nat.add_right_comm, Nat.add_assoc]

/-! ### The page table, up to the order of its records -/

theorem mem_of_tableGet {α : Type} {t : Table α} {h : Nat} {x : α} (hx : tableGet t h = some x) : (h, x) ∈ t := by
  induction t with
  | nil => cases hx
  | cons c t ih =>
    obtain ⟨k, v⟩ := c
    rw [tableGet] at hx
    split at hx
    · next e => cases hx; exact e ▸ List.mem_cons_self
    · exact List.mem_cons_of_mem _ (ih hx)

theorem tableErase_of_none {α : Type} {t : Table α} {h : Nat} (hn : ∀ x ∈ t, x.1 ≠ h) : tableErase t h = t := by
  induction t with
  | nil => rfl
  | cons c t ih =>
    rw [tableErase, if_neg (Ne.symm (hn c List.mem_cons_self)), ih fun x hx => hn x (List.mem_cons_of_mem _ hx)]

/-- A table whose handles rise is the record under a handle and what an erasure leaves. -/
theorem perm_tableErase {α : Type} {t : Table α} (ht : TableRising t) {h : Nat} {x : α} (hx : tableGet t h = some x) :
    t.Perm ((h, x) :: tableErase t h) := by
  induction t with
  | nil => cases hx
  | cons c t ih =>
    obtain ⟨hhead, htail⟩ := List.pairwise_cons.mp ht
    obtain ⟨k, v⟩ := c
    rw [tableGet] at hx
    rw [tableErase]
    split at hx
    · next e =>
      cases hx
      rw [if_pos e, e, tableErase_of_none fun y hy => Nat.ne_of_gt (hhead y hy)]
    · next hk =>
      rw [if_neg hk]
      exact ((ih htail hx).cons _).trans (List.Perm.swap ..)

/-- A table with a record under a new handle is that record and what the table held. -/
theorem perm_tablePut {α : Type} {t : Table α} {h : Nat} (hn : tableGet t h = none) (x : α) :
    (tablePut t h x).Perm ((h, x) :: t) := by
  induction t with
  | nil => exact .refl _
  | cons c t ih =>
    obtain ⟨k, v⟩ := c
    rw [tableGet] at hn
    rw [tablePut]
    split at hn
    · cases hn
    · next hk =>
      rw [if_neg hk]
      split
      · exact .refl _
      · exact ((ih hn).cons _).trans (List.Perm.swap ..)

/-! ### The blocks among the free list and the row maps (R71, R72) -/

/-- R71, R72: what the free list, the pages, the held counts and the block map have to agree on, in whatever order the pages
are listed. -/
structure BlocksAgree (free : List Nat) (pages : Table Page) (held : PerPort Nat) (map : List (Option BlockUse)) :
    Prop where
  blocks : (free ++ pages.flatMap (·.2.rowMap)).Perm (List.range 2048)
  mapped : ∀ x ∈ pages, pageMapped x.2 = true
  held   : ∀ p : Port, held.get p = mappedBlocks (pages.filter (·.2.owner == p))
  size   : map.length = 2048
  free   : ∀ b ∈ free, map[b]? = some none
  used   : ∀ x ∈ pages, ∀ i b, x.2.rowMap[i]? = some b → map[b]? = some (some (BlockUse.mk x.1 i))

section

variable {free : List Nat} {pages pages' : Table Page} {held : PerPort Nat} {map : List (Option BlockUse)}

theorem mappedBlocks_cons (x : Nat × Page) (l : Table Page) :
    mappedBlocks (x :: l) = x.2.rowMap.length + mappedBlocks l := by
  simp [mappedBlocks]

theorem mappedBlocks_perm (h : pages.Perm pages') : mappedBlocks pages = mappedBlocks pages' :=
  (h.map _).sum_eq

theorem BlocksAgree.perm (ok : BlocksAgree free pages held map) (h : pages.Perm pages') :
    BlocksAgree free pages' held map where
  blocks := ((h.flatMap_right _).append_left free).symm.trans ok.blocks
  mapped := fun x hx => ok.mapped x (h.mem_iff.mpr hx)
  held := fun p => (ok.held p).trans (mappedBlocks_perm (h.filter _))
  size := ok.size
  free := ok.free
  used := fun x hx => ok.used x (h.mem_iff.mpr hx)

/-- R71: every block of the free list and of the row maps is one of the 2048, and stands in one place only. -/
theorem BlocksAgree.nodup (ok : BlocksAgree free pages held map) :
    (free ++ pages.flatMap (·.2.rowMap)).Nodup := ok.blocks.nodup_iff.mpr List.nodup_range

theorem BlocksAgree.lt (ok : BlocksAgree free pages held map) {b : Nat}
    (hb : b ∈ free ++ pages.flatMap (·.2.rowMap)) : b < map.length := by
  rw [ok.size]
  exact List.mem_range.mp (ok.blocks.mem_iff.mp hb)

/-- R72: a page adds its blocks to the held count of its owner. -/
theorem mappedBlocks_owned (x : Nat × Page) (l : Table Page) (p : Port) :
    mappedBlocks ((x :: l).filter (·.2.owner == p))
      = (if p = x.2.owner then x.2.rowMap.length else 0) + mappedBlocks (l.filter (·.2.owner == p)) := by
  by_cases hp : p = x.2.owner
  · rw [List.filter_cons_of_pos (by simp [hp]), mappedBlocks_cons, if_pos hp]
  · rw [List.filter_cons_of_neg (by simpa using Ne.symm hp), if_neg hp, Nat.zero_add]

/-- R86: the blocks of a page that goes join the free list. -/
theorem BlocksAgree.release {h : Nat} {pg : Page} (ok : BlocksAgree free ((h, pg) :: pages) held map) :
    BlocksAgree (free ++ pg.rowMap) pages (held.set pg.owner (held.get pg.owner - pg.rowMap.length))
      (pg.rowMap.foldl (fun m b => m.set b none) map) := by
  have hblocks := ok.blocks
  have hnodup := ok.nodup
  rw [List.flatMap_cons, ← List.append_assoc] at hblocks hnodup
  have apart : ∀ b ∈ pg.rowMap, b ∉ pages.flatMap (·.2.rowMap) := fun b hb hm =>
    List.disjoint_of_nodup_append hnodup (List.mem_append_right _ hb) hm
  refine ⟨hblocks, fun x hx => ok.mapped x (List.mem_cons_of_mem _ hx), fun p => ?_, by simp [ok.size],
    fun b hb => ?_, fun x hx i b hb => ?_⟩
  · have total := (ok.held p).trans (mappedBlocks_owned _ _ p)
    rw [PerPort.get_set]
    split at total
    · next e => rw [if_pos e, ← e, total, Nat.add_sub_cancel_left]
    · next e => rw [if_neg e, total, Nat.zero_add]
  · rw [getElem?_freeBlocks]
    split
    · rfl
    · next hn =>
      rcases List.mem_append.mp hb with hb | hb
      · exact ok.free b hb
      · exact absurd ⟨hb, ok.lt (by simp [hb])⟩ hn
  · have hmem : b ∈ pages.flatMap (·.2.rowMap) := List.mem_flatMap.mpr ⟨x, hx, List.mem_of_getElem? hb⟩
    rw [getElem?_freeBlocks, if_neg fun hn => apart b hn.1 hmem]
    exact ok.used x (List.mem_cons_of_mem _ hx) i b hb

/-- R76: a new page takes the first blocks of the free list. -/
theorem BlocksAgree.reserve {n h : Nat} {pg : Page} (ok : BlocksAgree free pages held map)
    (hrow : pg.rowMap = free.take n) (hm : pageMapped pg = true) :
    BlocksAgree (free.drop n) ((h, pg) :: pages) (held.set pg.owner (held.get pg.owner + pg.rowMap.length))
      (markBlocks h 0 pg.rowMap map) := by
  have split : free = pg.rowMap ++ free.drop n := by rw [hrow, List.take_append_drop]
  have hnodup := ok.nodup
  rw [split, List.append_assoc] at hnodup
  obtain ⟨rowOnce, -, apart⟩ := List.nodup_append'.mp hnodup
  have notTaken : ∀ b, b ∈ free.drop n ++ pages.flatMap (·.2.rowMap) → b ∉ pg.rowMap := fun b hb hr => apart hr hb
  refine ⟨?_, ?_, fun p => ?_, by simp [ok.size], fun b hb => ?_, ?_⟩
  · refine List.Perm.trans ?_ ok.blocks
    conv_rhs => rw [split]
    rw [List.flatMap_cons, ← List.append_assoc]
    exact List.perm_append_comm.append_right _
  · intro x hx
    rcases List.mem_cons.mp hx with rfl | hx
    · exact hm
    · exact ok.mapped x hx
  · rw [PerPort.get_set, mappedBlocks_owned, ← ok.held p]
    split
    · next e => rw [← e, Nat.add_comm]
    · rw [Nat.zero_add]
  · rw [getElem?_markBlocks_of_notMem (notTaken b (List.mem_append_left _ hb))]
    exact ok.free b (List.mem_of_mem_drop hb)
  · intro x hx i b hb
    rcases List.mem_cons.mp hx with rfl | hx
    · have hin : b ∈ free := List.mem_of_mem_take (hrow ▸ List.mem_of_getElem? hb)
      rw [getElem?_markBlocks rowOnce hb h 0 (ok.lt (List.mem_append_left _ hin)), Nat.zero_add]
    · have hmem : b ∈ pages.flatMap (·.2.rowMap) := List.mem_flatMap.mpr ⟨x, hx, List.mem_of_getElem? hb⟩
      rw [getElem?_markBlocks_of_notMem (notTaken b (List.mem_append_right _ hmem))]
      exact ok.used x hx i b hb

end

end Sys2Proof.Machine.ImageStore

/-! ## The Image Store: the invariant and the operations of the store (R71 to R76, R81, R84, R86) -/

namespace Sys2Proof.Machine.ImageStore

open Documents

/-- R71, R72: the Image Store is sound and its block map agrees. -/
def StoreWhole (s : State) : Prop := StoreSound s ∧ BlockMapAgrees s

/-- R71, R72: the invariant is the canonical memory, the rising handles, and the agreement about the blocks. -/
theorem storeWhole_iff {s : State} : StoreWhole s ↔ memoryWf s.store.memory = true ∧ TableRising s.store.pages
    ∧ (∀ x ∈ s.store.pages, x.1 < 1024)
    ∧ BlocksAgree s.store.freeList s.store.pages s.store.held s.store.blockMap := by
  constructor
  · rintro ⟨⟨memory, rising, handles, blocks, mapped, held⟩, size, free, used⟩
    exact ⟨memory, rising, handles, blocks, mapped, held, size, free, used⟩
  · rintro ⟨memory, rising, handles, blocks, mapped, held, size, free, used⟩
    exact ⟨⟨memory, rising, handles, blocks, mapped, held⟩, size, free, used⟩

/-! ### Changes that leave every block where it is -/

/-- R71, R72: a change that gives each record its handle, its owner and its place in the memory again keeps the agreement
about the blocks. -/
theorem BlocksAgree.map {free : List Nat} {pages : Table Page} {held : PerPort Nat} {map : List (Option BlockUse)}
    (ok : BlocksAgree free pages held map) {g : Nat × Page → Nat × Page}
    (hg : ∀ x, (g x).1 = x.1 ∧ (g x).2.owner = x.2.owner ∧ (g x).2.rowMap = x.2.rowMap
      ∧ pageMapped (g x).2 = pageMapped x.2) : BlocksAgree free (pages.map g) held map where
  blocks := by simpa only [List.flatMap_map, hg] using ok.blocks
  mapped := by simpa only [List.forall_mem_map, hg] using ok.mapped
  held := fun p => by
    rw [ok.held p]
    simp only [mappedBlocks, List.filter_map, List.map_map, Function.comp_def, hg]
  size := ok.size
  free := ok.free
  used := by simpa only [List.forall_mem_map, hg] using ok.used

/-- What two states share when an operation leaves the memory, the pages and the blocks as they are. -/
structure SameBlocks (s t : State) : Prop where
  memory   : t.store.memory = s.store.memory
  pages    : t.store.pages = s.store.pages
  freeList : t.store.freeList = s.store.freeList
  held     : t.store.held = s.store.held
  blockMap : t.store.blockMap = s.store.blockMap

theorem SameBlocks.of_store {s t : State} (h : t.store = s.store) : SameBlocks s t := by constructor <;> rw [h]

theorem SameBlocks.whole {s t : State} (same : SameBlocks s t) (hs : StoreWhole s) : StoreWhole t := by
  rw [storeWhole_iff] at hs ⊢
  rwa [same.memory, same.pages, same.freeList, same.held, same.blockMap]

theorem whole_of_store {s t : State} (hs : StoreWhole s) (h : t.store = s.store) : StoreWhole t :=
  (SameBlocks.of_store h).whole hs

/-- R73, R74, R81: page records change, and none moves in the memory. -/
theorem whole_of_map {s t : State} (hs : StoreWhole s) (hm : memoryWf t.store.memory = true)
    {g : Nat × Page → Nat × Page} (hp : t.store.pages = s.store.pages.map g)
    (hg : ∀ x, (g x).1 = x.1 ∧ (g x).2.owner = x.2.owner ∧ (g x).2.rowMap = x.2.rowMap
      ∧ pageMapped (g x).2 = pageMapped x.2)
    (hf : t.store.freeList = s.store.freeList) (hh : t.store.held = s.store.held)
    (hb : t.store.blockMap = s.store.blockMap) : StoreWhole t := by
  obtain ⟨-, rising, handles, ok⟩ := storeWhole_iff.mp hs
  rw [storeWhole_iff, hp, hf, hh, hb]
  refine ⟨hm, ?_, ?_, ok.map hg⟩
  · simpa only [TableRising, List.pairwise_map, hg] using rising
  · simpa only [List.forall_mem_map, hg] using handles

theorem StoreWhole.memory {s : State} (hs : StoreWhole s) : memoryWf s.store.memory = true := hs.1.memory

/-- R84: what lands of an abandoned PUT ROWS changes bytes alone. -/
theorem landHead_whole {s : State} (before : State) (hs : StoreWhole s) : StoreWhole (landHead before s) := by
  rw [storeWhole_iff] at hs ⊢
  simp only [landHead_keeps]
  exact ⟨landHead_wf hs.1, hs.2⟩

/-- R74: attaching and detaching a page moves no block. -/
theorem setAttached_whole {s : State} (doc : Option Nat) (h : Nat) (hs : StoreWhole s) :
    StoreWhole (setAttached doc h s) := by
  refine whole_of_map hs hs.memory (tableModify_eq_map _ _ _) (fun x => ?_) rfl rfl rfl
  split <;> exact ⟨rfl, rfl, rfl, rfl⟩

theorem foldl_whole {α : Type} {f : State → α → State} (hf : ∀ s a, StoreWhole s → StoreWhole (f s a)) (l : List α)
    {s : State} (hs : StoreWhole s) : StoreWhole (l.foldl f s) := by
  induction l generalizing s with
  | nil => exact hs
  | cons a l ih => exact ih (hf s a hs)

theorem detachPages_whole {s : State} (h : Nat) (d : Doc) (hs : StoreWhole s) : StoreWhole (detachPages h d s) := by
  refine foldl_whole (fun s g hs => ?_) _ hs
  unfold detachFrom
  (repeat' split) <;> first | exact setAttached_whole none g hs | exact hs

/-- R38: the pages of a new document are attached to it. -/
theorem createDoc_whole {s : State} (p : Port) (h : Nat) (d : Doc) (hs : StoreWhole s) :
    StoreWhole (createDoc p h d s) := by
  have attached : StoreWhole ((d.pages.map (·.1)).foldl (fun s pg => setAttached (some h) pg s)
      { s with docs := { s.docs with table := tablePut s.docs.table h d } }) :=
    foldl_whole (fun s g hs => setAttached_whole (some h) g hs) _ (whole_of_store hs rfl)
  exact whole_of_store attached rfl

/-- R81: rows that are written and counted move no block. -/
theorem countRows_whole {s : State} (w : PendingWrite) (rest : List PendingWrite) (pg : Page) (hs : StoreWhole s) :
    StoreWhole (countRows w rest pg s) := by
  refine whole_of_map hs (writeRows_wf pg _ hs.memory _ _) (tableModify_eq_map _ _ _) (fun x => ?_) rfl rfl rfl
  split <;> exact ⟨rfl, rfl, rfl, rfl⟩

/-! ### Pages that go and pages that come -/

theorem refuseWrites_blockMap (l : List PendingWrite) (s : State) :
    (l.foldl refuseWrite s).store.blockMap = s.store.blockMap :=
  foldl_keep (f := refuseWrite) (g := fun s => s.store.blockMap) (fun _ _ => rfl) l s

/-- R84: refusing the PUT ROWS in flight on a page leaves every page as it is. -/
theorem refuseWritesTo_same (h : Nat) (s : State) : SameBlocks s (refuseWritesTo h s) :=
  ⟨by simp, by simp, by simp, by simp, refuseWrites_blockMap _ s⟩

/-- R86: the blocks of the page join the free list, and its record goes. -/
theorem freePage_whole {s : State} {h : Nat} {pg : Page} (hpg : tableGet s.store.pages h = some pg)
    (hs : StoreWhole s) : StoreWhole (freePage h pg s) := by
  obtain ⟨memory, rising, handles, ok⟩ := storeWhole_iff.mp hs
  exact storeWhole_iff.mpr ⟨memory, rising.erase h, fun x hx => handles x (tableErase_mem hx),
    (ok.perm (perm_tableErase rising hpg)).release⟩

theorem dropPage_whole {s : State} (h : Nat) (hs : StoreWhole s) : StoreWhole (dropPage h s) := by
  unfold dropPage
  split
  · exact hs
  · next pg hpg =>
    have same := refuseWritesTo_same h s
    exact freePage_whole (by rwa [same.pages]) (same.whole hs)

theorem dropPages_whole {s : State} (l : List Nat) (hs : StoreWhole s) :
    StoreWhole (l.foldl (fun s h => dropPage h s) s) := foldl_whole (fun _ h hs => dropPage_whole h hs) l hs

/-- R75, check 1: the fields of a page whose geometry is accepted. -/
theorem checkedPage_eq (width height depth dpi code : Nat) :
    checkedPage width height depth dpi code =
      if 1 ≤ width ∧ width ≤ 4096 ∧ 1 ≤ height ∧ height ≤ 6144 ∧ (depth = 1 ∨ depth = 2 ∨ depth = 4 ∨ depth = 8)
        ∧ 100 ≤ dpi ∧ dpi ≤ 600 then rotationOfCode code else none := by
  unfold checkedPage inRange
  refine if_congr ?_ rfl rfl
  simp only [Bool.and_eq_true, Bool.or_eq_true, decide_eq_true_eq, beq_iff_eq, and_assoc, or_assoc]

/-- R71, R76: in the sizes of R76 a page has a row at least in each block, and its rows fit its blocks. -/
theorem rows_fit {width height depth : Nat} (hw : 1 ≤ width ∧ width ≤ 4096) (hd : 1 ≤ depth ∧ depth ≤ 8) :
    rowsPerBlockOf width depth * rowBytesOf width depth ≤ blockBytes ∧ 0 < rowsPerBlockOf width depth
      ∧ height ≤ rowsPerBlockOf width depth * blocksOf width height depth := by
  have bits : 1 ≤ width * depth ∧ width * depth ≤ 4096 * 8 := ⟨Nat.mul_pos hw.1 hd.1, Nat.mul_le_mul hw.2 hd.2⟩
  have bytes : 1 ≤ rowBytesOf width depth ∧ rowBytesOf width depth ≤ 4096 := by
    unfold rowBytesOf ceilDiv
    omega
  have rows : 0 < rowsPerBlockOf width depth := Nat.div_pos (by unfold blockBytes; omega) bytes.1
  refine ⟨Nat.div_mul_le_self _ _, rows, ?_⟩
  have cover := Nat.div_add_mod (height + rowsPerBlockOf width depth - 1) (rowsPerBlockOf width depth)
  have rest := Nat.mod_lt (height + rowsPerBlockOf width depth - 1) rows
  unfold blocksOf ceilDiv
  omega

/-- R71, R76: when every row of a page lies in the block memory. -/
theorem pageMapped_iff {pg : Page} : pageMapped pg = true ↔ (∀ b ∈ pg.rowMap, b < blockCount)
    ∧ pg.rowsPerBlock * pg.rowBytes ≤ blockBytes ∧ 0 < pg.rowsPerBlock
    ∧ pg.height ≤ pg.rowsPerBlock * pg.rowMap.length := by
  simp only [pageMapped, Bool.and_eq_true, List.all_eq_true, decide_eq_true_eq, and_assoc]

/-- R76: a page that DEFINE PAGE creates lies in the blocks that it takes. -/
theorem newPage_mapped {width height depth dpi code : Nat} {rot : Rotation}
    (hc : checkedPage width height depth dpi code = some rot) {rowMap : List Nat} (hb : ∀ b ∈ rowMap, b < blockCount)
    (hl : rowMap.length = blocksOf width height depth) (p : Port) :
    pageMapped (newPage p width height depth dpi rot rowMap) = true := by
  rw [checkedPage_eq] at hc
  split at hc
  · next hin =>
    obtain ⟨hw, hw', -, -, hd, -⟩ := hin
    obtain ⟨bytes, rows, cover⟩ := rows_fit (height := height) ⟨hw, hw'⟩ (show 1 ≤ depth ∧ depth ≤ 8 by omega)
    exact pageMapped_iff.mpr ⟨hb, bytes, rows, cover.trans_eq (by rw [← hl]; rfl)⟩
  · cases hc

/-- R76: the new page takes the first blocks of the free list. -/
theorem createPage_whole {s : State} {p : Port} {h width height depth dpi code : Nat} {rot : Rotation}
    (hc : checkedPage width height depth dpi code = some rot) (hn : tableGet s.store.pages h = none) (hlt : h < 1024)
    (hfree : blocksOf width height depth ≤ s.store.freeList.length) (hs : StoreWhole s) :
    StoreWhole (createPage p h width height depth dpi rot s) := by
  obtain ⟨memory, rising, handles, ok⟩ := storeWhole_iff.mp hs
  have taken : (s.store.freeList.take (blocksOf width height depth)).length = blocksOf width height depth := by
    rw [List.length_take, Nat.min_eq_left hfree]
  have inside : ∀ b ∈ s.store.freeList.take (blocksOf width height depth), b < blockCount := fun b hb =>
    (ok.lt (List.mem_append_left _ (List.mem_of_mem_take hb))).trans_eq ok.size
  have reserved := ok.reserve (h := h) (pg := newPage p width height depth dpi rot _) rfl
    (newPage_mapped hc inside taken p)
  refine storeWhole_iff.mpr ⟨memory, rising.put h _, fun x hx => ?_, ?_⟩
  · rcases tablePut_mem hx with e | hx
    · exact e ▸ hlt
    · exact handles x hx
  · have agree := reserved.perm (perm_tablePut hn _).symm
    simp only [newPage, taken] at agree
    exact agree

/-- R71, R72: with no page every block is free. -/
theorem BlocksAgree.empty (n : Nat) (hn : n = 2048) :
    BlocksAgree (List.range n) [] (everyPort 0) (List.replicate n none) := by
  refine ⟨?_, by simp, fun p => ?_, ?_, fun b hb => ?_, by simp⟩
  · rw [List.flatMap_nil, List.append_nil, hn]
  · rw [everyPort_get]
    rfl
  · rw [List.length_replicate, hn]
  · rw [List.getElem?_replicate, if_pos (List.mem_range.mp hb)]

/-- R1, R71: after a reset every block is free, and the memory holds what it held. -/
theorem afterReset_whole (now choices : Nat) (pending : List Instr) {memory : List Host.Cell}
    (hm : memoryWf memory = true) (cell : Nat) (straps : PerPort PortClass) :
    StoreWhole (State.afterReset now choices pending memory cell straps) := by
  rw [storeWhole_iff]
  dsimp only [State.afterReset, defaultStore]
  exact ⟨hm, .nil, List.forall_mem_nil _, BlocksAgree.empty blockCount rfl⟩

theorem resetPart_whole {s : State} (straps : PerPort PortClass) (hs : StoreWhole s) :
    StoreWhole (resetPart straps s) := by
  have landed : StoreWhole (landHead s { s with store := { s.store with writes := [] } }) :=
    landHead_whole s (SameBlocks.whole (s := s) ⟨rfl, rfl, rfl, rfl, rfl⟩ hs)
  exact afterReset_whole _ _ _ landed.memory _ _

end Sys2Proof.Machine.ImageStore

/-! ## The Image Store: what the other blocks leave of it, and what the release of documents does (R28, R46, R83) -/

namespace Sys2Proof.Machine.ImageStore

open Documents

/-! ### The block map outside the Image Store -/

@[simp] theorem abandonWritesOf_blockMap (p : Port) (s : State) :
    (abandonWritesOf p s).store.blockMap = s.store.blockMap :=
  foldl_keep (f := fun s w => abandonWrite w s) (g := fun s => s.store.blockMap) (fun _ _ => rfl) _ s

@[simp] theorem askResume_blockMap (s : State) : (askResume s).store.blockMap = s.store.blockMap := by
  simp [askResume]

@[simp] theorem rowsArrived_blockMap (page received : Nat) (s : State) :
    (rowsArrived page received s).store.blockMap = s.store.blockMap := by
  unfold rowsArrived
  (repeat' split) <;> simp

@[simp] theorem pauseFrame_blockMap (ref : PageRef) (received row : Nat) (s : State) :
    (pauseFrame ref received row s).store.blockMap = s.store.blockMap := by
  simp [pauseFrame]

@[simp] theorem tryLine_blockMap (s : State) : (tryLine s).store.blockMap = s.store.blockMap := by
  unfold tryLine
  (repeat' split) <;> simp

@[simp] theorem releaseWriter_blockMap (s : State) : (releaseWriter s).store.blockMap = s.store.blockMap := rfl

@[simp] theorem endFrame_blockMap (s : State) : (endFrame s).store.blockMap = s.store.blockMap := by
  unfold endFrame
  split
  · rfl
  · dsimp only
    split <;> simp

@[simp] theorem spoilFrame_blockMap (cause : SpoilCause) (s : State) :
    (spoilFrame cause s).store.blockMap = s.store.blockMap := by
  unfold spoilFrame
  (repeat' split) <;> simp

@[simp] theorem faultFrame_blockMap (cause : SpoilCause) (s : State) :
    (faultFrame cause s).store.blockMap = s.store.blockMap := by
  unfold faultFrame
  dsimp only
  split <;> simp

@[simp] theorem undoStart_blockMap (s : State) : (undoStart s).store.blockMap = s.store.blockMap := by
  simp [undoStart]

@[simp] theorem abortPlaced_blockMap (s : State) : (abortPlaced s).store.blockMap = s.store.blockMap := by
  unfold abortPlaced
  dsimp only
  split <;> simp

@[simp] theorem writerSample_blockMap (reading : Nat) (s : State) :
    (writerSample reading s).store.blockMap = s.store.blockMap := by
  unfold writerSample
  dsimp only
  (repeat' split) <;> simp [startWriting, latchReading, resumeWriting, spoilBeam]

@[simp] theorem completeMeasurement_blockMap (reading : Nat) (s : State) :
    (completeMeasurement reading s).store.blockMap = s.store.blockMap := by
  unfold completeMeasurement dueLine
  dsimp only
  (repeat' split) <;> simp

@[simp] theorem loseStage_blockMap (s : State) : (loseStage s).store.blockMap = s.store.blockMap := by
  simp [loseStage]

@[simp] theorem transportFault_blockMap (s : State) : (transportFault s).store.blockMap = s.store.blockMap := by
  simp [transportFault]

@[simp] theorem failOp_blockMap (op : Operation) (s : State) : (failOp op s).store.blockMap = s.store.blockMap := by
  unfold failOp
  (repeat' split) <;> simp

@[simp] theorem nextLine_blockMap (s : State) : (nextLine s).store.blockMap = s.store.blockMap := by
  simp [nextLine]

theorem triggerPorts_whole {s : State} (hs : StoreWhole s) : StoreWhole (triggerPorts s) :=
  whole_of_store hs (by simp)

theorem settle_whole {s : State} (hs : StoreWhole s) : StoreWhole (settle s) := whole_of_store hs (by simp)

theorem closeTest_whole {s : State} (hs : StoreWhole s) : StoreWhole (closeTest s) := whole_of_store hs (by simp)

theorem cancelled_whole {s : State} (hs : StoreWhole s) : StoreWhole (cancelled s) :=
  settle_whole (closeTest_whole (triggerPorts_whole hs))

/-! ### Documents that are released (R28, R32, R88) -/

theorem releaseDoc_whole {s : State} (h : Nat) (hs : StoreWhole s) : StoreWhole (releaseDoc h s) := by
  unfold releaseDoc
  split
  · exact hs
  · exact whole_of_store (dropPages_whole _ hs) rfl

theorem testRelease_whole {s : State} (h : Nat) (hs : StoreWhole s) : StoreWhole (testRelease h s) := by
  unfold testRelease
  (repeat' split) <;> first | exact releaseDoc_whole h hs | exact hs

theorem finalizeDoc_whole {s : State} (h : Nat) (st : DocState) (reason : Option Reason) (hs : StoreWhole s) :
    StoreWhole (finalizeDoc h st reason s) := by
  cases hd : docOf s h with
  | none => rwa [finalizeDoc_of_none hd]
  | some d =>
    rw [finalizeDoc_of_some hd]
    exact testRelease_whole h (whole_of_store hs (by simp [announced, ended, marked]))

/-- R18: the pages of documents that the completion limit ends are freed with them. -/
theorem expireCompletion_whole {s : State} (hs : StoreWhole s) : StoreWhole (expireCompletion s) := by
  unfold expireCompletion
  split
  · exact hs
  · next r _ =>
    refine triggerPorts_whole (landHead_whole _ (foldl_whole (fun s h hs => ?_) _ (whole_of_store hs rfl)))
    exact finalizeDoc_whole h _ _ (whole_of_store hs rfl)

theorem applyCompletion_whole {s : State} (hs : StoreWhole s) : StoreWhole (applyCompletion s) := by
  unfold applyCompletion
  (repeat' split) <;> first | exact expireCompletion_whole hs | exact hs

theorem finishDocs_whole {s : State} (hs : StoreWhole s) : StoreWhole (finishDocs s) := by
  refine foldl_whole (fun s h hs => ?_) _ hs
  unfold finishDoc
  (repeat' split) <;> first | exact finalizeDoc_whole h _ _ hs | exact hs

theorem reclaimDocs_whole {s : State} (hs : StoreWhole s) : StoreWhole (reclaimDocs s) :=
  foldl_whole (fun _ h hs => testRelease_whole h hs) _ hs

/-- R27: the finish of a sheet changes the store by the documents that it finishes and releases. -/
theorem finishSheet_whole {s : State} (hs : StoreWhole s) : StoreWhole (finishSheet s) := by
  unfold finishSheet
  split
  · exact hs
  · next r _ =>
    dsimp only
    refine whole_of_store (landHead_whole _ (reclaimDocs_whole ?_)) ((apply_ite State.store _ _ _).trans (ite_self _))
    split
    · exact whole_of_store hs rfl
    · exact finishDocs_whole (whole_of_store hs rfl)

/-! ### A port reset, a cancel, a rejection (R42, R43, R46, R64) -/

theorem dropUnplaced_whole {s : State} (p : Port) (hs : StoreWhole s) : StoreWhole (dropUnplaced p s) := by
  refine foldl_whole (fun s h hs => releaseDoc_whole h hs) _ (whole_of_store hs ?_)
  rw [modQueue_store, apply_ite State.store]
  exact ite_self _

theorem resetPort_whole {s : State} (p : Port) (hs : StoreWhole s) : StoreWhole (resetPort p s) := by
  obtain ⟨run, he⟩ := resetPort_eq p s
  have handler : StoreWhole (handlerReset p s) :=
    SameBlocks.whole (s := s) (by constructor <;> simp [handlerReset]) hs
  have core : StoreWhole (portResetCore p s) :=
    whole_of_store (landHead_whole _ (dropPages_whole _ (dropUnplaced_whole p handler))) rfl
  rw [he]
  exact settle_whole (closeTest_whole (whole_of_store core rfl))

theorem cancel_whole {s : State} (p : Port) (tag h : Nat) (hs : StoreWhole s) : StoreWhole (cancel p tag h s) := by
  have out : ∀ (d : Doc) {x : State}, StoreWhole x → StoreWhole (cancelDoc h d x) := fun d _ hx =>
    finalizeDoc_whole h _ _ (detachPages_whole h d hx)
  unfold cancel acceptCancel
  (repeat' split) <;> try exact whole_of_store hs rfl
  · exact cancelled_whole (whole_of_store (out _ hs) rfl)
  · exact cancelled_whole (whole_of_store (out _ (whole_of_store hs (by simp))) rfl)

theorem rejectEffects_whole {s : State} (p : Port) (h : Nat) (reason : Reason) (page : Nat) (hs : StoreWhole s) :
    StoreWhole (rejectEffects p h reason page s) := by
  rw [rejectEffects_eq]
  have turned : StoreWhole (turnedAway p h page reason s) := whole_of_store hs (by simp [turnedAway])
  exact landHead_whole _ (whole_of_store (finalizeDoc_whole h .rejected (some reason) turned) (by simp))

end Sys2Proof.Machine.ImageStore

/-! ## The Image Store: every command and every step (R71, R72, R76, R86) -/

namespace Sys2Proof.Machine.ImageStore

open Documents

/-! ### The requests of the Image Store and of the documents -/

theorem request_whole {p : Port} {k : Kind} {tag : Nat} {s t : State} {block : State → State}
    (h : request p k tag s block = .next t) (hs : StoreWhole s) (hb : StoreWhole (block s)) : StoreWhole t := by
  rcases request_cases h with rfl | ⟨status, rfl⟩ | ⟨-, rfl⟩
  · exact hs
  · exact whole_of_store hs rfl
  · exact hb

/-- R176: a request whose block leaves the store as it is. -/
theorem request_store {p : Port} {k : Kind} {tag : Nat} {s t : State} {block : State → State}
    (h : request p k tag s block = .next t) (hb : (block s).store = s.store) : t.store = s.store := by
  rcases request_cases h with rfl | ⟨status, rfl⟩ | ⟨-, rfl⟩
  · rfl
  · rfl
  · exact hb

theorem define_whole {s : State} (p : Port) (tag width height depth dpi code : Nat) (hs : StoreWhole s) :
    StoreWhole (define p tag width height depth dpi code s) := by
  unfold define
  split
  · exact whole_of_store hs rfl
  · next rot hrot =>
    dsimp only
    split
    · exact whole_of_store hs rfl
    split
    · exact whole_of_store hs rfl
    split
    · exact whole_of_store hs rfl
    next hfree =>
    split
    · exact whole_of_store hs rfl
    · next h hh =>
      obtain ⟨hlt, hn, -⟩ := tableFree_spec hh
      exact whole_of_store (createPage_whole (p := p) hrot hn hlt (Nat.le_of_not_lt hfree) hs) rfl

theorem drop_whole {s : State} (p : Port) (tag page : Nat) (hs : StoreWhole s) : StoreWhole (drop p tag page s) := by
  unfold drop
  (repeat' split) <;> try exact whole_of_store hs rfl
  exact whole_of_store (dropPage_whole page hs) rfl

theorem submit_whole {s : State} (p : Port) (tag : Nat) (key : Text) (cls : Nat) (stream : Bool) (count : Nat)
    (pages : List Nat) (hs : StoreWhole s) : StoreWhole (submit p tag key cls stream count pages s) := by
  unfold submit
  (repeat' split) <;> try exact whole_of_store hs rfl
  next c _ _ _ _ _ _ h _ =>
  exact settle_whole (closeTest_whole (triggerPorts_whole
    (whole_of_store (createDoc_whole p h (newDoc p key c stream pages) hs) rfl)))

/-! ### Every command -/

/-- The commands that may change the Image Store. -/
def changesStore : Instr → Bool
  | .powerOn _ | .deviceReset _ | .linkDown _ | .portReset _ _ | .abortSheet _ _ | .setLimits _ _ _ _ _ _
  | .submitDocument _ _ _ _ _ _ _ | .cancelDocument _ _ _ | .definePage _ _ _ _ _ _ _ | .putRows _ _ _ _ _ _
  | .dropPage _ _ _ | .setQuota _ _ _ _ | .completionTimerExpiry | .pauseTimerExpiry | .operationTimeout
  | .finishingCutComplete | .measurementComplete _ | .lineEnd | .positionLoss | .gateRelease | .rejection
  | .rowsWritten => true
  | _ => false

/-- R71 to R73: every other command leaves the Image Store as it is. -/
theorem exec_keeps_store {c : Instr} (hc : changesStore c = false) {s t : State} (h : exec c s = .next t) :
    t.store = s.store := by
  cases c <;> simp only [changesStore, reduceCtorEq] at hc <;> simp only [exec] at h
  case linkUp => unfold execLinkUp at h; split at h <;> cases h <;> rfl
  case badFrame => unfold execBadFrame at h; split at h <;> cases h <;> rfl
  case unknownRequest =>
    unfold execUnknownRequest at h
    split at h
    · exact request_store h rfl
    · dsimp only at h
      (repeat' split at h) <;> cases h <;> rfl
  case ageTimerExpiry => unfold execAgeTimerExpiry at h; (repeat' split at h) <;> cases h <;> simp [reach]
  case quietTimerExpiry => unfold execQuietTimerExpiry at h; split at h <;> cases h <;> rfl
  case serialWriteComplete => unfold execSerialWriteComplete at h; split at h <;> cases h <;> (try split) <;> simp
  case openingAdvanceComplete => unfold execOpeningAdvanceComplete at h; split at h <;> cases h <;> simp
  case leaderInAdvanceComplete => unfold execLeaderInAdvanceComplete at h; split at h <;> cases h <;> simp
  case leaderOutAdvanceComplete => unfold execLeaderOutAdvanceComplete at h; split at h <;> cases h <;> simp
  case stageArrival => unfold execStageArrival at h; split at h <;> cases h <;> simp
  case homingComplete => unfold execHomingComplete at h; split at h <;> cases h <;> simp
  case frameStart => unfold execFrameStart at h; (repeat' split at h) <;> cases h <;> simp
  case grant => unfold execGrant at h; split at h <;> cases h <;> simp
  case retakeUnfit => unfold execRetakeUnfit at h; split at h <;> cases h <;> simp
  case tryFailure => unfold execTryFailure at h; split at h <;> cases h <;> simp
  case retraceStart => unfold execRetraceStart at h; dsimp only at h; (repeat' split at h) <;> cases h <;> simp
  case batchMark => refine request_store h ?_; dsimp only; split <;> simp
  all_goals
    refine request_store h ?_
    (repeat' split) <;> simp

/-- R83, R84, R86: a PUT ROWS that is accepted waits, and moves no block. -/
theorem acceptRows_same (p : Port) (tag page first count : Nat) (data : List Byte) (s : State) :
    SameBlocks s (acceptRows p tag page first count data s) := by
  unfold acceptRows
  (repeat' split) <;> exact ⟨rfl, rfl, rfl, rfl, rfl⟩

/-- R81: the rows of the oldest PUT ROWS are written. -/
theorem rowsWritten_whole {s t : State} (h : execRowsWritten s = .next t) (hs : StoreWhole s) : StoreWhole t := by
  unfold execRowsWritten at h
  (repeat' split at h) <;> cases h
  · exact hs
  · exact SameBlocks.whole (s := s) ⟨rfl, rfl, rfl, rfl, rfl⟩ hs
  · next w rest _ _ pg _ _ =>
    exact SameBlocks.whole (s := countRows w rest pg s) (by constructor <;> simp) (countRows_whole w rest pg hs)

/-- R71, R72: a command keeps the Image Store sound. -/
theorem exec_whole {c : Instr} {s t : State} (hs : StoreWhole s) (h : exec c s = .next t) : StoreWhole t := by
  by_cases hc : changesStore c = false
  · exact whole_of_store hs (exec_keeps_store hc h)
  have same : ∀ x : State, SameBlocks s x → StoreWhole x := fun x hx => hx.whole hs
  cases c <;> simp only [changesStore, not_true_eq_false, Bool.true_eq_false, not_false_eq_true] at hc <;>
    simp only [exec] at h
  case powerOn straps => cases h; exact resetPart_whole straps hs
  case deviceReset straps => cases h; exact resetPart_whole straps hs
  case linkDown p =>
    unfold execLinkDown at h
    split at h <;> cases h
    · exact resetPort_whole p (whole_of_store hs rfl)
    · exact hs
  case portReset p tag => exact request_whole h hs (whole_of_store (resetPort_whole p hs) rfl)
  case abortSheet p tag =>
    refine request_whole h hs (same _ ?_)
    split <;> constructor <;> simp
  case setLimits p tag pause completion age starve =>
    refine request_whole h hs (whole_of_store (applyCompletion_whole (s := { s with comp := { s.comp with
      pauseLimit := clamp 1 60 pause, completionLimit := clamp 10 3600 completion, ageLimit := storedAge age
      starveClose := starve } }) (whole_of_store hs rfl)) (by simp))
  case submitDocument p tag key cls stream count pages =>
    exact request_whole h hs (submit_whole p tag key cls stream count pages hs)
  case cancelDocument p tag doc => exact request_whole h hs (cancel_whole p tag doc hs)
  case definePage p tag width height depth dpi code =>
    exact request_whole h hs (define_whole p tag width height depth dpi code hs)
  case putRows p tag page first count data =>
    exact request_whole h hs (same _ (acceptRows_same p tag page first count data s))
  case dropPage p tag page => exact request_whole h hs (drop_whole p tag page hs)
  case setQuota p tag port value =>
    refine request_whole h hs (same _ ?_)
    split <;> exact ⟨rfl, rfl, rfl, rfl, rfl⟩
  case completionTimerExpiry =>
    unfold execCompletionTimerExpiry at h
    split at h <;> cases h
    · exact settle_whole (expireCompletion_whole (whole_of_store hs rfl))
    · exact hs
  case pauseTimerExpiry =>
    unfold execPauseTimerExpiry at h
    (repeat' split at h) <;> cases h <;> refine same _ ?_ <;> constructor <;> simp [reach]
  case operationTimeout =>
    unfold execOperationTimeout at h
    split at h <;> cases h <;> refine same _ ?_ <;> constructor <;> simp [reach]
  case finishingCutComplete =>
    unfold execFinishingCutComplete at h
    split at h <;> cases h
    · exact settle_whole (finishSheet_whole (whole_of_store hs rfl))
    · exact hs
  case measurementComplete power =>
    unfold execMeasurementComplete at h
    (repeat' split at h) <;> cases h <;> refine same _ ?_ <;> constructor <;> simp [reach]
  case lineEnd =>
    unfold execLineEnd at h
    dsimp only at h
    (repeat' split at h) <;> cases h <;> refine same _ ?_ <;> constructor <;> simp [reach]
  case positionLoss =>
    cases h
    refine same _ ?_
    constructor <;> simp
  case gateRelease =>
    unfold execGateRelease at h
    split at h <;> cases h <;> refine same _ ?_ <;> constructor <;> simp
  case rejection =>
    unfold execRejection at h
    split at h <;> cases h
    · next p g reason page _ =>
      have reached : StoreWhole (reachStep s) := whole_of_store hs (by simp)
      exact whole_of_store (rejectEffects_whole p g reason page reached) (by simp)
    all_goals exact hs
  case rowsWritten => exact rowsWritten_whole h hs

/-- Settles O52: a tick leaves the Image Store as it is, and each command keeps it sound with its block map. -/
theorem stepsKeepTheStoreSound : Obligations.StepsKeepTheStoreSound := by
  intro s t hs hm h
  have whole : StoreWhole s := ⟨hs, hm⟩
  unfold step at h
  split at h
  · cases h
    exact whole_of_store whole (by simp [tick])
  · next c rest _ => exact exec_whole (s := { s with pending := rest }) (whole_of_store whole rfl) h

end Sys2Proof.Machine.ImageStore

/-! ## The Image Store: no step stops (R71, log entry 32) -/

namespace Sys2Proof.Machine.ImageStore

open Documents

/-- R71: with a sound store every row of a page that the table holds lies in the block memory. -/
theorem pageMapped_of_tableGet {s : State} (hs : StoreSound s) {h : Nat} {pg : Page}
    (hpg : tableGet s.store.pages h = some pg) : pageMapped pg = true := hs.mapped _ (mem_of_tableGet hpg)

/-- R71: with a sound store the Writer finds its page in the block memory. -/
theorem writerMapped_of_sound {s : State} (hs : StoreSound s) : writerMapped s = true := by
  unfold writerMapped
  split
  · next pg hpg =>
    obtain ⟨ref, -, href⟩ := Option.bind_eq_some_iff.mp hpg
    exact pageMapped_of_tableGet hs href
  · rfl

/-- R176: no request stops the part. -/
theorem request_next (p : Port) (k : Kind) (tag : Nat) (s : State) (block : State → State) :
    ∃ t, request p k tag s block = .next t := by
  unfold request
  dsimp only
  (repeat' split) <;> exact ⟨_, rfl⟩

/-- The commands that read or write rows of a page. -/
def touchesRows : Instr → Bool
  | .measurementComplete _ | .lineEnd | .rowsWritten => true
  | _ => false

/-- Every other command answers a next state, whatever the state of the store. -/
theorem exec_next {c : Instr} (hc : touchesRows c = false) (s : State) : ∃ t, exec c s = .next t := by
  cases c <;> simp only [touchesRows, reduceCtorEq] at hc <;> simp only [exec]
  case powerOn | deviceReset | positionLoss => exact ⟨_, rfl⟩
  case linkUp => unfold execLinkUp; split <;> exact ⟨_, rfl⟩
  case linkDown => unfold execLinkDown; split <;> exact ⟨_, rfl⟩
  case badFrame => unfold execBadFrame; split <;> exact ⟨_, rfl⟩
  case unknownRequest =>
    unfold execUnknownRequest
    split
    · exact request_next ..
    · dsimp only
      (repeat' split) <;> exact ⟨_, rfl⟩
  case ageTimerExpiry => unfold execAgeTimerExpiry; (repeat' split) <;> exact ⟨_, rfl⟩
  case completionTimerExpiry => unfold execCompletionTimerExpiry; split <;> exact ⟨_, rfl⟩
  case pauseTimerExpiry => unfold execPauseTimerExpiry; (repeat' split) <;> exact ⟨_, rfl⟩
  case quietTimerExpiry => unfold execQuietTimerExpiry; split <;> exact ⟨_, rfl⟩
  case operationTimeout => unfold execOperationTimeout; split <;> exact ⟨_, rfl⟩
  case serialWriteComplete => unfold execSerialWriteComplete; split <;> exact ⟨_, rfl⟩
  case openingAdvanceComplete => unfold execOpeningAdvanceComplete; split <;> exact ⟨_, rfl⟩
  case finishingCutComplete => unfold execFinishingCutComplete; split <;> exact ⟨_, rfl⟩
  case leaderInAdvanceComplete => unfold execLeaderInAdvanceComplete; split <;> exact ⟨_, rfl⟩
  case leaderOutAdvanceComplete => unfold execLeaderOutAdvanceComplete; split <;> exact ⟨_, rfl⟩
  case stageArrival => unfold execStageArrival; split <;> exact ⟨_, rfl⟩
  case homingComplete => unfold execHomingComplete; split <;> exact ⟨_, rfl⟩
  case gateRelease => unfold execGateRelease; split <;> exact ⟨_, rfl⟩
  case frameStart => unfold execFrameStart; (repeat' split) <;> exact ⟨_, rfl⟩
  case grant => unfold execGrant; split <;> exact ⟨_, rfl⟩
  case rejection => unfold execRejection; split <;> exact ⟨_, rfl⟩
  case retakeUnfit => unfold execRetakeUnfit; split <;> exact ⟨_, rfl⟩
  case tryFailure => unfold execTryFailure; split <;> exact ⟨_, rfl⟩
  case retraceStart => unfold execRetraceStart; split <;> exact ⟨_, rfl⟩
  all_goals exact request_next ..

theorem exec_next_of_sound {c : Instr} {s : State} (hs : StoreSound s) : ∃ t, exec c s = .next t := by
  cases hc : touchesRows c with
  | false => exact exec_next hc s
  | true =>
    cases c <;> simp only [touchesRows, reduceCtorEq] at hc <;> simp only [exec]
    case measurementComplete power =>
      unfold execMeasurementComplete
      split
      · exact ⟨_, rfl⟩
      · rw [if_pos (writerMapped_of_sound hs)]
        exact ⟨_, rfl⟩
    case lineEnd =>
      have mapped : writerMapped (reach (s.writer.retraceStart + retraceTicks) s) = true :=
        writerMapped_of_sound (s := s) hs
      unfold execLineEnd
      dsimp only
      rw [if_pos mapped]
      (repeat' split) <;> exact ⟨_, rfl⟩
    case rowsWritten =>
      unfold execRowsWritten
      split
      · exact ⟨_, rfl⟩
      split
      · exact ⟨_, rfl⟩
      · next hpg =>
        rw [if_pos (pageMapped_of_tableGet hs hpg)]
        exact ⟨_, rfl⟩

/-- Settles O58: a command stops only at a page outside the block memory, and a sound store has none. -/
theorem soundStoresNeverStop : Obligations.SoundStoresNeverStop := by
  intro s hs
  unfold step
  split
  · exact ⟨_, rfl⟩
  · next c rest _ =>
    have rest_sound : StoreSound { s with pending := rest } :=
      ⟨hs.memory, hs.rising, hs.handles, hs.blocks, hs.mapped, hs.held⟩
    exact exec_next_of_sound rest_sound

end Sys2Proof.Machine.ImageStore

/-! ## The Image Store: defining a page, delivering rows, dropping a page, quotas (R75, R76, R78, R80, R87) -/

namespace Sys2Proof.Machine.ImageStore

open Documents

/-- R75: a rotation code above 3 names no rotation. -/
theorem rotationOfCode_none {code : Nat} (h : ¬ code ≤ 3) : rotationOfCode code = none := by
  unfold rotationOfCode
  split <;> first | omega | rfl

/-- R75: the fields of a DEFINE PAGE that check 1 refuses. -/
theorem checkedPage_none {w h depth dpi code : Nat} (hbad : ¬ (1 ≤ w ∧ w ≤ 4096 ∧ 1 ≤ h ∧ h ≤ 6144
    ∧ (depth = 1 ∨ depth = 2 ∨ depth = 4 ∨ depth = 8) ∧ 100 ≤ dpi ∧ dpi ≤ 600 ∧ code ≤ 3)) :
    checkedPage w h depth dpi code = none := by
  rw [checkedPage_eq]
  split
  · next hin =>
    obtain ⟨h1, h2, h3, h4, h5, h6, h7⟩ := hin
    exact rotationOfCode_none fun hcode => hbad ⟨h1, h2, h3, h4, h5, h6, h7, hcode⟩
  · rfl

/-- R75, R76: with every check passed DEFINE PAGE creates the page and answers its sizes. -/
theorem define_accepted {s : State} {p : Port} {w h depth dpi code g : Nat} {rot : Rotation}
    (hc : checkedPage w h depth dpi code = some rot) (hsmall : blocksOf w h depth ≤ 256)
    (hquota : s.store.held.get p + blocksOf w h depth ≤ s.store.quota.get p)
    (hfree : blocksOf w h depth ≤ s.store.freeList.length) (hg : tableFree s.store.pages 1024 = some g) (tag : Nat) :
    define p tag w h depth dpi code s = answer p .definePage tag .ok
      (definedBody p g w h depth (createPage p g w h depth dpi rot s)) (createPage p g w h depth dpi rot s) := by
  simp only [define, hc, not_lt.mpr hsmall, not_lt.mpr hquota, not_lt.mpr hfree, hg, if_false]

/-- Settles O31: the refusals come in their order, and the accepted page is the one that `createPage` makes at the lowest
free handle. -/
theorem definePageReservesBlocks : Obligations.DefinePageReservesBlocks := by
  intro s p tag w h depth dpi code hacc rowBytes perBlock b hrow hper hb
  have he := request_accepted hacc tag (define p tag w h depth dpi code)
  have hblocks : blocksOf w h depth = b := by subst hb hper hrow; rfl
  refine ⟨fun hbad => he.trans ?_, fun rot h1 h2 h3 h4 h5 h6 h7 hrot => ?_⟩
  · simp only [define, checkedPage_none hbad]
    rfl
  have hc : checkedPage w h depth dpi code = some rot := by
    rw [checkedPage_eq, if_pos ⟨h1, h2, h3, h4, h5, h6, h7⟩, hrot]
  refine ⟨fun hlarge => he.trans ?_, fun hsmall => ⟨fun hover => he.trans ?_, fun hquota => ⟨fun hfull => he.trans ?_,
    fun hfree => ⟨fun hall => he.trans ?_, fun g hlt hn hbelow => ?_⟩⟩⟩⟩
  · simp only [define, hc, hblocks, hlarge, if_true]
    rfl
  · simp only [define, hc, hblocks, not_lt.mpr hsmall, hover, if_true, if_false]
    rfl
  · simp only [define, hc, hblocks, not_lt.mpr hsmall, not_lt.mpr hquota, hfull, if_true, if_false]
    rfl
  · simp only [define, hc, hblocks, not_lt.mpr hsmall, not_lt.mpr hquota, not_lt.mpr hfree, tableFree_none hall, if_false]
    rfl
  · subst hblocks
    refine ⟨_, he.trans (congrArg _ (define_accepted hc hsmall hquota hfree (tableFree_eq hlt hn hbelow) tag)), ?_, ?_⟩
    · simp only [definedBody, createPage, PerPort.get_set_same, List.length_drop]
      subst hper hrow
      rfl
    · simp only [answer_store, createPage, tableGet_put, if_true]
      exact Option.some_ne_none _

/-- R84: with no PUT ROWS in flight on a page its drop refuses none. -/
theorem refuseWritesTo_of_none {s : State} {h : Nat} (hw : ∀ w ∈ s.store.writes, w.page ≠ h) :
    refuseWritesTo h s = s := by
  unfold refuseWritesTo
  rw [List.filter_eq_nil_iff.mpr fun w hm => by simpa using hw w hm]
  rfl

/-- R86, R87: an accepted drop frees the page and answers the held count and the free blocks. -/
theorem drop_accepted {s : State} {page : Nat} {pg : Page} (hpg : tableGet s.store.pages page = some pg)
    (hfree : pg.attached = none) (hw : ∀ w ∈ s.store.writes, w.page ≠ page) (tag : Nat) :
    drop pg.owner tag page s = answer pg.owner .dropPage tag .ok
      (u16 (s.store.held.get pg.owner - pg.rowMap.length) ++ u16 (s.store.freeList.length + pg.rowMap.length))
      (freePage page pg s) := by
  simp only [drop, hpg, hfree, ne_eq, not_true_eq_false, if_false, dropPage, refuseWritesTo_of_none hw, freePage,
    PerPort.get_set_same, List.length_append]

/-- Settles O34: the refusals come in their order, and an accepted drop is `freePage`. -/
theorem dropPageFreesItsBlocks : Obligations.DropPageFreesItsBlocks := by
  intro s p tag page hacc
  have he := request_accepted hacc tag (drop p tag page)
  refine ⟨fun hn => he.trans ?_, fun pg hpg => ⟨fun hother => he.trans ?_, fun hown d hd => he.trans ?_,
    fun hown hfree hw => ?_⟩⟩
  · simp only [drop, hn]
    rfl
  · simp only [drop, hpg, hother, ne_eq, not_false_eq_true, if_true]
    rfl
  · simp only [drop, hpg, hown, hd, ne_eq, not_true_eq_false, if_false]
    rfl
  · subst hown
    exact ⟨_, he.trans (congrArg _ (drop_accepted hpg hfree hw tag)), rfl, fun g => tableGet_erase _ _ g⟩

/-- Settles O32: the checks of R80 are made in their order, and accepted rows wait behind those accepted before. -/
theorem putRowsIsCheckedInOrder : Obligations.PutRowsIsCheckedInOrder := by
  intro s p tag page first count data hacc
  have he := request_accepted hacc tag (acceptRows p tag page first count data)
  refine ⟨fun hn => he.trans ?_, fun pg hpg => ⟨fun hother => he.trans ?_, fun hown => ⟨fun hdone => he.trans ?_,
    fun hopen => ⟨fun hbad => he.trans ?_, fun h1 h2 h3 => ⟨fun horder => he.trans ?_, fun hfirst =>
      ⟨fun hover => he.trans ?_, fun hfits => he.trans ?_⟩⟩⟩⟩⟩⟩
  · simp only [acceptRows, hn]
    rfl
  · simp only [acceptRows, hpg, hother, ne_eq, not_false_eq_true, if_true]
    rfl
  · simp only [acceptRows, hpg, hown, hdone, ne_eq, not_true_eq_false, if_true, if_false]
    rfl
  · have bad : count < 1 ∨ 16384 < data.length ∨ data.length ≠ count * pg.rowBytes := by
      by_contra hgood
      simp only [not_or, not_lt, ne_eq, not_not] at hgood
      exact hbad hgood
    simp only [acceptRows, hpg, hown, hopen, ne_eq, not_true_eq_false, if_false, reduceCtorEq]
    rw [if_pos bad]
    rfl
  all_goals
    have good : ¬ (count < 1 ∨ 16384 < data.length ∨ data.length ≠ count * pg.rowBytes) := by
      simp only [not_or, not_lt, ne_eq, not_not]
      exact ⟨h1, h2, h3⟩
    simp only [acceptRows, hpg, hown, hopen, ne_eq, not_true_eq_false, if_false, reduceCtorEq]
    rw [if_neg good]
  · rw [if_pos horder]
    rfl
  · rw [if_neg (not_not.mpr hfirst), if_pos hover]
    rfl
  · rw [if_neg (not_not.mpr hfirst), if_neg (not_lt.mpr hfits)]
    rfl

/-- R179: a port letter is read back from its code, and a code above 3 names no port. -/
theorem portOfCode_portCode (q : Port) : portOfCode (portCode q) = some q := by
  cases q <;> rfl

theorem portOfCode_none {code : Nat} (h : 3 < code) : portOfCode code = none := by
  unfold portOfCode
  split <;> first | omega | rfl

/-- R75: a DEFINE PAGE whose blocks its port's quota has no room for is refused, once its fields and size have passed. -/
theorem exec_definePage_overQuota {t : State} {q : Port} {tag w h depth dpi code : Nat}
    (hacc : accepts t q .definePage) (hc : (checkedPage w h depth dpi code).isSome = true)
    (hsmall : blocksOf w h depth ≤ 256) (hover : t.store.quota.get q < t.store.held.get q + blocksOf w h depth) :
    exec (.definePage q tag w h depth dpi code) t = .next (withReply q 0x8E tag .overQuota
      (u16 (blocksOf w h depth) ++ u16 (t.store.held.get q) ++ u16 (t.store.quota.get q)) t) := by
  refine (request_accepted hacc tag (define q tag w h depth dpi code)).trans ?_
  obtain ⟨rot, hrot⟩ := Option.isSome_iff_exists.mp hc
  simp only [define, hrot, not_lt.mpr hsmall, hover, if_true, if_false]
  rfl

/-- Settles O35: the stored quota is the clamped value, and the next DEFINE PAGE of the port reads it. -/
theorem setQuotaStoresTheQuota : Obligations.SetQuotaStoresTheQuota := by
  intro s p tag code value hacc
  refine ⟨fun hbad => ?_, fun q hq => ?_⟩
  · simp only [exec, execSetQuota, request_accepted hacc, portOfCode_none hbad]
    rfl
  have stored : exec (.setQuota p tag code value) s =
      .next (withReply p 0x92 tag .ok (u8 code ++ u16 (min 2048 value) ++ u16 (s.store.held.get q))
        { s with store := { s.store with quota := s.store.quota.set q (min 2048 value) } }) := by
    simp only [exec, execSetQuota, request_accepted hacc, ← hq, portOfCode_portCode]
    rfl
  refine ⟨stored, fun t tag' w h depth dpi rot ht hacc' hc hsmall hover => ?_⟩
  have quota : t.store.quota.get q = min 2048 value := by
    rw [stored] at ht
    cases ht
    exact PerPort.get_set_same _ _ _
  rw [← quota] at hover ⊢
  exact exec_definePage_overQuota hacc' hc hsmall hover

end Sys2Proof.Machine.ImageStore

/-! ## The scale of a page (R93) -/

namespace Sys2Proof.Machine.FrameGeometry

theorem scaleFits_iff {p0 w h fw fh k : Nat} :
    scaleFits p0 w h fw fh k = true ↔ w * (p0 * k / 64) ≤ fw ∧ h * (p0 * k / 64) ≤ fh := by
  rw [scaleFits, Bool.and_eq_true, decide_eq_true_eq, decide_eq_true_eq]
  rfl

/-- R93: the scales are tried from 64 down, so the one that is found is the largest. -/
theorem bestScale_eq_some {p0 w h fw fh k : Nat} (hk : bestScale p0 w h fw fh = some k) :
    32 ≤ k ∧ k ≤ 64 ∧ scaleFits p0 w h fw fh k = true
      ∧ ∀ k', k < k' → k' ≤ 64 → ¬ scaleFits p0 w h fw fh k' = true := by
  rw [bestScale, List.find?_map, Option.map_eq_some_iff] at hk
  obtain ⟨i, hi, rfl⟩ := hk
  obtain ⟨fits, hmem, earlier⟩ := List.find?_range_eq_some.mp hi
  have hlt := List.mem_range.mp hmem
  refine ⟨by omega, by omega, fits, fun k' habove hle => ?_⟩
  have tried := earlier (64 - k') (by omega)
  rwa [Function.comp_apply, Nat.sub_sub_self hle, Bool.not_eq_true', ← Bool.not_eq_true] at tried

theorem bestScale_eq_none {p0 w h fw fh : Nat} :
    bestScale p0 w h fw fh = none ↔ ∀ k, 32 ≤ k → k ≤ 64 → ¬ scaleFits p0 w h fw fh k = true := by
  rw [bestScale, List.find?_eq_none]
  refine ⟨fun hn k hlo hhi => hn k (List.mem_map.mpr ⟨64 - k, List.mem_range.mpr (by omega), Nat.sub_sub_self hhi⟩),
    fun hn k hm => ?_⟩
  obtain ⟨i, hi, rfl⟩ := List.mem_map.mp hm
  have hlt := List.mem_range.mp hi
  exact hn _ (by omega) (by omega)

/-- Settles O39: the candidates are 64 down to 32, and the first that fits is taken. -/
theorem bestScaleIsTheLargestThatFits : Obligations.BestScaleIsTheLargestThatFits := by
  intro p0 w h fw fh
  refine ⟨fun k hk => ?_, ?_⟩
  · obtain ⟨hlo, hhi, fits, larger⟩ := bestScale_eq_some hk
    obtain ⟨hw, hh⟩ := scaleFits_iff.mp fits
    exact ⟨hlo, hhi, hw, hh, fun k' habove hle => mt scaleFits_iff.mpr (larger k' habove hle)⟩
  · simp only [← scaleFits_iff]
    exact bestScale_eq_none

end Sys2Proof.Machine.FrameGeometry

/-! ## The tables of the Dose Unit (R109 to R114) -/

namespace Sys2Proof.Machine.DoseTables

open ImageStore

theorem inRange_iff {lo hi n : Nat} : inRange lo hi n = true ↔ lo ≤ n ∧ n ≤ hi := by
  simp only [inRange, Bool.and_eq_true, decide_eq_true_eq]

theorem all_inRange_zero {hi : Nat} {l : List Nat} : l.all (inRange 0 hi) = true ↔ ∀ x ∈ l, x ≤ hi := by
  simp only [List.all_eq_true, inRange_iff, Nat.zero_le, true_and]

theorem sheetInStage_eq_false {s : State} :
    sheetInStage s = false ↔ s.comp.sheet = .unloaded ∨ s.comp.sheet = .idle := by
  unfold sheetInStage
  cases s.comp.sheet <;> simp

theorem sheetInStage_eq_true {s : State} :
    sheetInStage s = true ↔ s.comp.sheet ≠ .unloaded ∧ s.comp.sheet ≠ .idle := by
  rw [← Bool.not_eq_false, sheetInStage_eq_false, not_or]

/-! ### WRITE CURVE (R110) -/

theorem curveInRange_iff {bank start count : Nat} {entries : List Nat} :
    curveInRange bank start count entries = true ↔
      bank ≤ 1 ∧ 1 ≤ count ∧ count ≤ 64 ∧ count = entries.length ∧ start + count ≤ 256 := by
  simp only [curveInRange, Bool.and_eq_true, decide_eq_true_eq, inRange_iff, and_assoc]

theorem bankActive_iff {s : State} {bank : Nat} :
    bankActive s bank = true ↔ s.comp.sheet ≠ .unloaded ∧ s.comp.sheet ≠ .idle ∧ s.dose.sheet.bank = bank := by
  rw [bankActive, Bool.and_eq_true, sheetInStage_eq_true, beq_iff_eq, and_assoc]

/-- R110: what stands at a place of a bank once entries have been written into it. -/
theorem getElem?_overwrite {start : Nat} {entries curve : List Nat} (hfits : start + entries.length ≤ curve.length)
    (n : Nat) : (overwrite start entries curve)[n]? =
      if start ≤ n ∧ n < start + entries.length then entries[n - start]? else curve[n]? := by
  have hstart : (curve.take start).length = start := List.length_take_of_le (by omega)
  unfold overwrite
  rcases Nat.lt_or_ge n start with before | reached
  · rw [if_neg (by omega), List.append_assoc, List.getElem?_append_left (by omega), List.getElem?_take_of_lt before]
  rcases Nat.lt_or_ge n (start + entries.length) with inside | behind
  · rw [if_pos ⟨reached, inside⟩, List.append_assoc, List.getElem?_append_right (by omega), hstart,
      List.getElem?_append_left (by omega)]
  · rw [if_neg (by omega), List.getElem?_append_right (by simp only [List.length_append]; omega),
      List.length_append, hstart, List.getElem?_drop, Nat.add_sub_cancel' behind]

/-- R110: in a sound bank the written places hold the entries as they are stored. -/
theorem getElem?_overwrite_stored {start : Nat} {entries curve : List Nat} (hc : curveSound curve)
    (hfits : start + entries.length ≤ 256) (n : Nat) :
    (overwrite start (entries.map storedDensity) curve)[n]? =
      if start ≤ n ∧ n < start + entries.length then (entries[n - start]?).map (min 2500 ·) else curve[n]? := by
  rw [getElem?_overwrite (by rw [List.length_map, hc.1]; exact hfits), List.length_map, List.getElem?_map]
  rfl

/-- R110: with both checks passed the bank is written and the entries as they are stored are answered. -/
theorem exec_writeCurve_accepted {s : State} {p : Port} {bank start count : Nat} {entries : List Nat}
    (hacc : accepts s p .writeCurve) (hin : curveInRange bank start count entries = true)
    (hfree : bankActive s bank = false) (tag : Nat) :
    exec (.writeCurve p tag bank start count entries) s = .next (withReply p 0x95 tag .ok
      (u8 bank ++ u8 start ++ u8 count ++ (entries.map (min 2500 ·)).flatMap u16)
      (modDose (writeBank bank start (entries.map storedDensity)) s)) := by
  obtain ⟨-, -, -, hcount, -⟩ := curveInRange_iff.mp hin
  simp only [exec, execWriteCurve, request_accepted hacc, hin, hfree, Bool.not_true, Bool.false_eq_true, if_false,
    listField, List.length_map, ← hcount, ← List.append_assoc]
  rfl

/-- Settles O37: the two checks come in their order, and an accepted command overwrites one of the two banks. -/
theorem writeCurveReplacesEntries : Obligations.WriteCurveReplacesEntries := by
  intro s p tag bank start count entries hacc
  refine ⟨fun hbad => ?_, fun h1 h2 h3 h4 h5 => ?_⟩
  · rw [← curveInRange_iff, Bool.not_eq_true] at hbad
    simp only [exec, execWriteCurve, request_accepted hacc, hbad, Bool.not_false, if_true]
    rfl
  have hin := curveInRange_iff.mpr ⟨h1, h2, h3, h4, h5⟩
  refine ⟨fun hu hi hb => ?_, fun hfree hs0 hs1 => ?_⟩
  · simp only [exec, execWriteCurve, request_accepted hacc, hin, bankActive_iff.mpr ⟨hu, hi, hb⟩, Bool.not_true,
      Bool.false_eq_true, if_true, if_false]
    rfl
  have inactive : bankActive s bank = false := by
    rw [← Bool.not_eq_true, bankActive_iff]
    rintro ⟨hu, hi, hb⟩
    exact hfree.elim hu fun h => h.elim hi fun hne => hne hb
  refine ⟨_, exec_writeCurve_accepted hacc hin inactive tag, ?_⟩
  subst h4
  obtain rfl | rfl : bank = 0 ∨ bank = 1 := by omega
  · exact ⟨rfl, fun _ => ⟨rfl, getElem?_overwrite_stored hs0 h5⟩, fun h => absurd h Nat.zero_ne_one⟩
  · exact ⟨rfl, fun h => absurd h Nat.one_ne_zero, fun _ => ⟨rfl, getElem?_overwrite_stored hs1 h5⟩⟩

/-! ### SET FILM RESPONSE (R112) -/

/-- R112: a table that does not fall has no place at which it falls. -/
theorem firstFall_of_pairwise : ∀ {points : List Nat} (k : Nat), points.Pairwise (· ≤ ·) → firstFall k points = none
  | [], _, _ => rfl
  | [_], _, _ => rfl
  | x :: y :: l, k, h => by
    obtain ⟨hx, hl⟩ := List.pairwise_cons.mp h
    rw [firstFall, if_neg (Nat.not_lt.mpr (hx y List.mem_cons_self)), firstFall_of_pairwise (k + 1) hl]

/-- R112: the place that is named is that of the first fall. -/
theorem firstFall_eq_some : ∀ {points : List Nat} {i : Nat} (k : Nat), i + 1 < points.length →
    points.getD (i + 1) 0 < points.getD i 0 → (∀ j < i, points.getD j 0 ≤ points.getD (j + 1) 0) →
    firstFall k points = some (k + i + 1)
  | _ :: _ :: _, 0, k, _, hfall, _ => if_pos hfall
  | x :: y :: l, i + 1, k, hlt, hfall, hrise => by
    have rest : firstFall (k + 1) (y :: l) = some (k + 1 + i + 1) :=
      firstFall_eq_some (k + 1) (Nat.lt_of_succ_lt_succ hlt) hfall fun j hj => hrise (j + 1) (Nat.succ_lt_succ hj)
    have first : x ≤ y := hrise 0 (Nat.succ_pos i)
    rw [firstFall, if_neg (Nat.not_lt.mpr first), rest, Nat.add_right_comm k 1 i]
    rfl

/-- Settles O38: the search for the first fall decides between the new table and the refusal. -/
theorem filmResponseMustNotFall : Obligations.FilmResponseMustNotFall := by
  intro s p tag points hacc
  refine ⟨fun ⟨hlength, hrange, hrise⟩ => ?_, fun i hfall hlt hrise => ?_⟩
  · simp only [exec, execSetFilmResponse, request_accepted hacc, firstFall_of_pairwise 0 hrise]
    rw [if_pos ⟨hlength, all_inRange_zero.mpr hrange⟩]
    rfl
  · simp only [exec, execSetFilmResponse, request_accepted hacc, firstFall_eq_some 0 hlt hfall hrise, Nat.zero_add]
    rfl

/-! ### The staged settings (R109, R111, R113, R114) -/

theorem toneMapSound_iff {map : List Nat} : (map.length = 16 ∧ map.all (inRange 0 255)) ↔ toneMapSound map := by
  rw [all_inRange_zero, toneMapSound]

theorem not_toneMapSound {map : List Nat} (h : map.length ≠ 16 ∨ ∃ v ∈ map, 255 < v) : ¬ toneMapSound map := by
  rintro ⟨hlength, hrange⟩
  rcases h with hl | ⟨v, hv, hlt⟩
  · exact hl hlength
  · exact absurd (hrange v hv) (Nat.not_le.mpr hlt)

/-- R109: a port letter above D is refused, whoever asks. -/
theorem setTone_badPort {code : Nat} (hbad : 3 < code) (p : Port) (tag : Nat) (map : List Nat) (s : State) :
    setTone p tag code map s = withReply p 0x93 tag .badValue [] s := by
  rw [setTone, portOfCode_none hbad]
  rfl

/-- R109: a FEEDER port may not write the tone map of another port. -/
theorem setTone_notOwner {s : State} {p q : Port} (hcls : (s.ports.get p).cls = .feeder) (hne : q ≠ p) (tag : Nat)
    (map : List Nat) : setTone p tag (portCode q) map s = withReply p 0x93 tag .notOwner [] s := by
  simp only [setTone, portOfCode_portCode]
  rw [if_pos ⟨hcls, hne⟩]
  rfl

/-- R109: the port may write the tone map; the map itself is tested last. -/
theorem setTone_permitted {s : State} {p q : Port} (hmay : (s.ports.get p).cls = .bureau ∨ q = p) (tag : Nat)
    (map : List Nat) : setTone p tag (portCode q) map s = if map.length = 16 ∧ map.all (inRange 0 255) then
      withReply p 0x93 tag .ok (u8 (portCode q) ++ map.map (BitVec.ofNat 8 ·))
        { s with dose := { s.dose with tones := s.dose.tones.set q map } }
      else withReply p 0x93 tag .badValue [] s := by
  have permitted : ¬ ((s.ports.get p).cls = .feeder ∧ q ≠ p) := by
    rintro ⟨hcls, hne⟩
    rcases hmay with hb | rfl
    · exact absurd (hb.symm.trans hcls) (by decide)
    · exact hne rfl
  simp only [setTone, portOfCode_portCode]
  rw [if_neg permitted, List.map_eq_flatMap]
  rfl

theorem exec_setOverlayMap {s : State} {p : Port} (hacc : accepts s p .setOverlayMap) (tag glyph cell : Nat) :
    exec (.setOverlayMap p tag glyph cell) s = .next (if glyph ≤ 255 ∧ cell ≤ 255 then
      withReply p 0x94 tag .ok [BitVec.ofNat 8 glyph, BitVec.ofNat 8 cell]
        { s with dose := { s.dose with glyphTone := glyph, cellTone := cell } }
      else withReply p 0x94 tag .badValue [] s) := by
  simp only [exec, execSetOverlayMap, request_accepted hacc, Bool.and_eq_true, inRange_iff, Nat.zero_le, true_and]
  rfl

/-- R111: the answer names the bank that the sheet in the stage has latched, if there is a sheet. -/
theorem latchedBank_bytes (s : State) :
    optField u8 (if sheetInStage s then some s.dose.sheet.bank else none) =
      if s.comp.sheet = .unloaded ∨ s.comp.sheet = .idle then [0#8] else [1#8, BitVec.ofNat 8 s.dose.sheet.bank] := by
  by_cases hout : s.comp.sheet = .unloaded ∨ s.comp.sheet = .idle
  · rw [if_pos hout, sheetInStage_eq_false.mpr hout]
    rfl
  · rw [if_neg hout, sheetInStage_eq_true.mpr (not_or.mp hout)]
    rfl

theorem exec_selectCurveBank {s : State} {p : Port} (hacc : accepts s p .selectCurveBank) (tag bank : Nat) :
    exec (.selectCurveBank p tag bank) s = .next (if bank ≤ 1 then
      withReply p 0x96 tag .ok
        (BitVec.ofNat 8 bank ::
          if s.comp.sheet = .unloaded ∨ s.comp.sheet = .idle then [0#8]
          else [1#8, BitVec.ofNat 8 s.dose.sheet.bank])
        { s with dose := { s.dose with bankSel := bank } }
      else withReply p 0x96 tag .badValue [] s) := by
  simp only [exec, execSelectCurveBank, request_accepted hacc, latchedBank_bytes]
  rfl

theorem exec_setWriter {s : State} {p : Port} (hacc : accepts s p .setWriter) (tag gain dotTime : Nat) :
    exec (.setWriter p tag gain dotTime) s =
      .next (if 1 ≤ gain ∧ gain ≤ 1023 ∧ 16 ≤ dotTime ∧ dotTime ≤ 1023 then
        withReply p 0x98 tag .ok (u16 gain ++ u16 dotTime)
          { s with dose := { s.dose with gain := gain, dotTime := dotTime } }
        else withReply p 0x98 tag .badValue (u16 s.dose.gain ++ u16 s.dose.dotTime) s) := by
  simp only [exec, execSetWriter, request_accepted hacc, Bool.and_eq_true, inRange_iff, and_assoc]
  rfl

/-- Settles O36: each of the four commands is one test, or for SET TONE MAP three in their order, and one field of the
Dose Unit. -/
theorem stagedSettingsAreReplaced : Obligations.StagedSettingsAreReplaced := by
  intro s p tag
  refine ⟨fun hacc code map => ?_, fun hacc glyph cell => ?_, fun hacc bank => ?_, fun hacc gain dotTime => ?_⟩
  · have he : exec (.setToneMap p tag code map) s = .next (setTone p tag code map s) := request_accepted hacc tag _
    rw [he]
    refine ⟨fun hbad => congrArg _ (setTone_badPort hbad p tag map s), ?_⟩
    rintro q rfl
    refine ⟨fun hcls hne => congrArg _ (setTone_notOwner hcls hne tag map), fun hmay hsound => ?_, fun hmay hbad => ?_⟩
    · rw [setTone_permitted hmay, if_pos (toneMapSound_iff.mpr hsound)]
    · rw [setTone_permitted hmay, if_neg (mt toneMapSound_iff.mp (not_toneMapSound hbad))]
  · rw [exec_setOverlayMap hacc]
    exact ⟨fun hg hc => congrArg _ (if_pos ⟨hg, hc⟩), fun hbad => congrArg _ (if_neg (by omega))⟩
  · rw [exec_selectCurveBank hacc]
    exact ⟨fun hb => congrArg _ (if_pos hb), fun hbad => congrArg _ (if_neg (Nat.not_le.mpr hbad))⟩
  · rw [exec_setWriter hacc]
    exact ⟨fun h1 h2 h3 h4 => congrArg _ (if_pos ⟨h1, h2, h3, h4⟩), fun hbad => congrArg _ (if_neg hbad)⟩

end Sys2Proof.Machine.DoseTables

/-! ## The end of a line's dots (R106, R122, R123, R137) -/

namespace Sys2Proof.Machine.LineDots

theorem exec_retraceStart {s : State} (hmode : s.writer.mode = .writing) (hphase : s.writer.phase = .dots) :
    exec .retraceStart s = .next (if onLastLine (endDots s) then endDots s else beginSample (endDots s)) :=
  if_pos ⟨hmode, hphase⟩

theorem endDots_writer {s : State} {rep : Report} (hrep : s.writer.report = some rep) :
    (endDots s).writer = { s.writer with
      phase := .retrace, pulses := [], retraceStart := (endDots s).now
      report := some { rep with lines := rep.lines + 1 } } := by
  simp only [endDots, modReport, modWriter_writer, reach_writer, hrep, Option.map_some]
  rfl

theorem onLastLine_endDots {s : State} :
    onLastLine (endDots s) = true ↔ s.writer.geometry.height ≤ s.writer.line + 1 := decide_eq_true_iff

theorem mem_addRequester (r : Requester) (s : State) : r ∈ (addRequester r s).beam.waiting := by
  unfold addRequester
  split
  · assumption
  · exact List.mem_append_right _ List.mem_cons_self

theorem addRequester_inFlight (r : Requester) (s : State) :
    (addRequester r s).beam.inFlight = s.beam.inFlight := by
  unfold addRequester
  split <;> rfl

/-- The Writer waits for its retrace sample: the state in which R137 tests for a measurement in flight. -/
def awaitingRetrace (s : State) : State :=
  addRequester .writer (modWriter (fun w => { w with sample := some .retrace }) s)

theorem awaitingRetrace_inFlight (s : State) : (awaitingRetrace s).beam.inFlight = s.beam.inFlight :=
  addRequester_inFlight _ _

theorem beginSample_eq (s : State) : beginSample s =
    if s.beam.inFlight.isNone then beginMeasurement (awaitingRetrace s) else awaitingRetrace s := by
  rw [← awaitingRetrace_inFlight]
  rfl

/-- R137: with no measurement in flight the sample begins at once. -/
theorem beginSample_of_free {s : State} (hfree : s.beam.inFlight = none) :
    beginSample s = beginMeasurement (awaitingRetrace s) := by
  rw [beginSample_eq, if_pos (Option.isNone_iff_eq_none.mpr hfree)]

/-- R137 (log entry 13): with a measurement in flight the sample waits. -/
theorem beginSample_of_busy {s : State} (hbusy : s.beam.inFlight ≠ none) : beginSample s = awaitingRetrace s := by
  rw [beginSample_eq, if_neg (mt Option.isNone_iff_eq_none.mp hbusy)]

theorem beginSample_writer (s : State) : (beginSample s).writer = { s.writer with sample := some .retrace } := by
  by_cases h : s.beam.inFlight = none
  · simp [beginSample_of_free h, awaitingRetrace]
  · simp [beginSample_of_busy h, awaitingRetrace]

/-- R137: the Writer is served by the measurement that begins, or waits behind the one in flight. -/
theorem beginSample_beam (s : State) :
    (beginSample s).beam.inFlight ≠ none
    ∧ (s.beam.inFlight = none →
      Requester.writer ∈ (beginSample s).beam.serving ∧ (beginSample s).beam.inFlight = some s.now)
    ∧ (s.beam.inFlight ≠ none →
      Requester.writer ∈ (beginSample s).beam.waiting ∧ (beginSample s).beam.inFlight = s.beam.inFlight) := by
  have asks : Requester.writer ∈ (awaitingRetrace s).beam.waiting := mem_addRequester _ _
  by_cases h : s.beam.inFlight = none
  · rw [beginSample_of_free h]
    have begun : (beginMeasurement (awaitingRetrace s)).beam.inFlight = some s.now := by
      simp [beginMeasurement, awaitingRetrace]
    exact ⟨by simp [begun], fun _ => ⟨asks, begun⟩, fun hbusy => absurd h hbusy⟩
  · rw [beginSample_of_busy h, awaitingRetrace_inFlight]
    exact ⟨h, fun hfree => absurd hfree h, fun _ => ⟨asks, rfl⟩⟩

/-- Settles O41: `endDots` writes the line off, and every line but the last goes on with `beginSample`. -/
theorem retraceStartEndsTheDots : Obligations.RetraceStartEndsTheDots := by
  intro s rep hmode hphase hrep
  refine ⟨_, exec_retraceStart hmode hphase, ?_⟩
  by_cases hlast : s.writer.geometry.height ≤ s.writer.line + 1
  · rw [if_pos (onLastLine_endDots.mpr hlast), if_neg (Nat.not_lt.mpr hlast)]
    exact ⟨rfl, endDots_writer hrep, fun _ => rfl, fun hmore => absurd hlast (Nat.not_le.mpr hmore),
      rfl, rfl, rfl, rfl, rfl, rfl, rfl⟩
  · rw [if_neg (mt onLastLine_endDots.mp hlast), if_pos (Nat.not_le.mp hlast), beginSample_writer,
      endDots_writer hrep]
    obtain ⟨hnow, -, -, hports, hdocs, hstore, hcomp, hdose, -, -, -, hfilm, hindex⟩ := beginSample_keeps (endDots s)
    rw [hnow]
    exact ⟨rfl, rfl, fun h => absurd h hlast, fun _ => beginSample_beam (endDots s),
      hports, hdocs, hstore, hcomp, hdose, hfilm, hindex⟩

end Sys2Proof.Machine.LineDots

/-! ## The Beam Monitor: measuring and the window (R137, R139, R142, R143) -/

namespace Sys2Proof.Machine.BeamMonitor

open LineDots

theorem addRequester_eq (r : Requester) (s : State) : addRequester r s =
    { s with beam := { s.beam with waiting := (addRequester r s).beam.waiting } } := by
  unfold addRequester
  split <;> rfl

theorem addRequester_serving (r : Requester) (s : State) :
    (addRequester r s).beam.serving = s.beam.serving := by
  rw [addRequester_eq]

theorem beamFree_addRequester (r : Requester) (s : State) : beamFree (addRequester r s) = beamFree s := by
  rw [addRequester_eq]
  rfl

theorem beamFree_of_not_writing {s : State} (h : s.writer.mode ≠ .writing) : beamFree s = true := by
  simp [beamFree, h]

/-- R137: a joining request begins a measurement exactly when none is in flight and the beam is free. -/
theorem joinMeasurement_eq_ite (r : Requester) (s : State) : joinMeasurement r s =
    if s.beam.inFlight = none ∧ beamFree s = true then beginMeasurement (addRequester r s) else addRequester r s := by
  have joined : (addRequester r s).beam.waiting ≠ [] := List.ne_nil_of_mem (mem_addRequester r s)
  simp [joinMeasurement, kickBeam, addRequester_inFlight, beamFree_addRequester, joined]

/-- R137: of the whole state a joining request changes only the two lists and the measurement in flight. -/
theorem joinMeasurement_eq (r : Requester) (s : State) : joinMeasurement r s =
    { s with beam := { s.beam with
        waiting := (joinMeasurement r s).beam.waiting, inFlight := (joinMeasurement r s).beam.inFlight
        serving := (joinMeasurement r s).beam.serving } } := by
  rw [joinMeasurement_eq_ite, addRequester_eq]
  split <;> rfl

/-- R137: whoever joins waits for the next measurement, or is served by the one that begins. -/
theorem joinMeasurement_requester (r : Requester) (s : State) :
    r ∈ (joinMeasurement r s).beam.waiting
      ∨ r ∈ (joinMeasurement r s).beam.serving ∧ (joinMeasurement r s).beam.inFlight ≠ none := by
  have joined := mem_addRequester r s
  rw [joinMeasurement_eq_ite]
  split
  · exact .inr ⟨joined, Option.some_ne_none _⟩
  · exact .inl joined

/-- R137: a request that joins during a measurement is not given its reading. -/
theorem joinMeasurement_of_inFlight {s : State} (h : s.beam.inFlight ≠ none) (r : Requester) :
    joinMeasurement r s = addRequester r s := by
  rw [joinMeasurement_eq_ite, if_neg fun hfree => h hfree.1]

/-- R137: with no measurement in flight and the Writer not writing, a measurement begins at once. -/
theorem joinMeasurement_begins {s : State} (hnone : s.beam.inFlight = none) (hmode : s.writer.mode ≠ .writing)
    (r : Requester) : (joinMeasurement r s).beam.inFlight = some s.now := by
  rw [joinMeasurement_eq_ite, if_pos ⟨hnone, beamFree_of_not_writing hmode⟩, addRequester_eq]
  rfl

theorem exec_measureBeam {s : State} {p : Port} (hacc : accepts s p .measureBeam) (tag : Nat) :
    exec (.measureBeam p tag) s = .next (joinMeasurement (.port p) (withBusy p (.measureBeam tag) s)) := by
  simp only [exec, execMeasureBeam, request_accepted hacc]
  rfl

theorem withBusy_modBeam (p : Port) (b : InFlight) (s : State) (beam : BeamUnit) :
    { withBusy p b s with beam := beam } = withBusy p b { s with beam := beam } := rfl

theorem clamp_zero (hi n : Nat) : clamp 0 hi n = min hi n := Nat.zero_max _

/-- R139: the return floor lies 16 above the floor. -/
theorem returnFloor_eq (index : Nat) : returnFloor index = 528 + 32 * index := by
  unfold returnFloor beamFloor
  omega

/-- R143: both values are clamped into their ranges, stored and answered. -/
theorem exec_setBeamWindow {s : State} {p : Port} (hacc : accepts s p .setBeamWindow) (tag f d : Nat) :
    exec (.setBeamWindow p tag f d) s =
      .next (withReply p 0x9A tag .ok
        (u8 (min 15 f) ++ u16 (512 + 32 * min 15 f) ++ u16 (528 + 32 * min 15 f) ++ u8 (max 1 (min 64 d)))
        { s with beam := { s.beam with floorIndex := min 15 f, drift := max 1 (min 64 d) } }) := by
  simp only [exec, execSetBeamWindow, request_accepted hacc, clamp_zero, returnFloor_eq]
  rfl

/-- Settles O44: MEASURE BEAM is the port's joining of the next measurement, and SET BEAM WINDOW writes two fields. -/
theorem beamRequestsMeasureAndSet : Obligations.BeamRequestsMeasureAndSet := by
  intro s p tag
  refine ⟨fun hacc => ?_, fun hacc => exec_setBeamWindow hacc tag⟩
  have frame := joinMeasurement_eq (.port p) (withBusy p (.measureBeam tag) s)
  rw [withBusy_modBeam] at frame
  refine ⟨_, exec_measureBeam hacc tag, frame, joinMeasurement_requester _ _, fun hbusy => ?_, fun hnone hmode => ?_⟩
  · rw [joinMeasurement_of_inFlight (s := withBusy p (.measureBeam tag) s) hbusy]
    exact ⟨addRequester_inFlight _ _, addRequester_serving _ _⟩
  · exact joinMeasurement_begins (s := withBusy p (.measureBeam tag) s) hnone hmode _

end Sys2Proof.Machine.BeamMonitor

/-! ## The Film Transport: operations that are asked for, and the loading of film (R147, R148, R150) -/

namespace Sys2Proof.Machine.FilmLoading

open Documents

/-! ### What the transport has been asked for (R147) -/

/-- R147: the transport is carrying an operation out or holds it in the request queue. -/
def AskedFor (op : Operation) (s : State) : Prop := motionOp s = some op ∨ op ∈ s.film.queue

theorem askedFor_enqueueOp (op : Operation) (s : State) : AskedFor op (enqueueOp op s) :=
  .inr (List.mem_append_right _ List.mem_cons_self)

theorem headOp_queue {s s' : State} {op : Operation} (h : headOp s = some (s', op)) :
    s.film.queue = op :: s'.film.queue := by
  unfold headOp at h
  split at h
  · cases h
  · next hq =>
    split at h
    · cases h
      exact hq
    · cases h

/-- R147, R158: what begins is the head of the queue, or a homing or a repetition that leaves the queue as it is. -/
theorem nextOp_queue {s s' : State} {op : Operation} (h : nextOp s = some (s', op)) :
    s.film.motion = none ∧ (s'.film.queue = s.film.queue ∨ s.film.queue = op :: s'.film.queue) := by
  unfold nextOp at h
  split at h
  · cases h
  next still =>
  refine ⟨Option.not_isSome_iff_eq_none.mp still, ?_⟩
  split at h
  · split at h
    · cases h
      exact .inl rfl
    · split at h
      · cases h
        exact .inl rfl
      · exact .inr (headOp_queue h)
  · exact .inr (headOp_queue h)

theorem beginOp_queue (op : Operation) (s : State) : (beginOp op s).film.queue = s.film.queue := by
  cases op with
  | stageMove place live =>
    simp only [beginOp]
    split
    · simp
    · rfl
  | _ => rfl

/-- R147, R154: every operation but a stage move, which may already stand at its place, is in motion once begun. -/
theorem motionOp_beginOp {op : Operation} (hmove : ∀ place live, op ≠ .stageMove place live) (s : State) :
    motionOp (beginOp op s) = some op := by
  cases op with
  | stageMove place live => exact absurd rfl (hmove place live)
  | _ => rfl

/-- R147: the transport drops no request by beginning an operation: the one taken from the queue is in motion. -/
theorem askedFor_beginOp {op op' : Operation} {s s' : State} (hmove : ∀ place live, op ≠ .stageMove place live)
    (hnext : nextOp s = some (s', op')) (h : AskedFor op s) : AskedFor op (beginOp op' s') := by
  obtain ⟨still, hqueue⟩ := nextOp_queue hnext
  have queued : op ∈ s.film.queue := h.resolve_left (by simp [motionOp, still])
  unfold AskedFor
  rw [beginOp_queue]
  rcases hqueue with kept | taken
  · exact .inr (kept ▸ queued)
  · rw [taken] at queued
    rcases List.mem_cons.mp queued with rfl | behind
    · exact .inl (motionOp_beginOp hmove s')
    · exact .inr behind

/-- R147: a film operation that has been asked for stays asked for while the transport tests its head. -/
theorem askedFor_pump {op : Operation} (hmove : ∀ place live, op ≠ .stageMove place live) {s : State}
    (h : AskedFor op s) : AskedFor op (pump s) := by
  unfold pump
  generalize s.film.queue.length + 1 = fuel
  induction fuel generalizing s with
  | zero => exact h
  | succ fuel ih =>
    unfold pumpFor
    split
    · next hnext => exact ih (askedFor_beginOp hmove hnext h)
    · exact h

/-! ### LOAD FILM (R148) -/

theorem loadAccepted_iff {s : State} :
    loadAccepted s = true ↔ s.comp.sheet = .unloaded ∧ s.film.film = .empty ∨ s.comp.sheet = .idle := by
  simp only [loadAccepted, Bool.or_eq_true, Bool.and_eq_true, beq_iff_eq]

/-- R148: the values as an accepted LOAD FILM stores them; the transport's test of its head changes none of them. -/
theorem loadFilm_stores (count : Nat) (lot : Text) (factor : Nat) (s : State) :
    (loadFilm count lot factor s).comp = { s.comp with sheet := .unloaded, exhausted := false }
    ∧ (loadFilm count lot factor s).film.film = .loading
    ∧ (loadFilm count lot factor s).film.count = clamp 1 2000 count
    ∧ (loadFilm count lot factor s).film.factor = clamp 512 2047 factor
    ∧ (loadFilm count lot factor s).film.lot = storedText lot := by
  simp [loadFilm]

theorem loadFilm_asks (count : Nat) (lot : Text) (factor : Nat) (s : State) :
    AskedFor .leaderIn (loadFilm count lot factor s) :=
  askedFor_pump (op := .leaderIn) nofun (askedFor_enqueueOp _ _)

theorem exec_loadFilm_accepted {s : State} {p : Port} {lot : Text} (hacc : accepts s p .loadFilm)
    (hload : loadAccepted s = true) (hlot : lot.length = 8) (tag count factor : Nat) :
    exec (.loadFilm p tag count lot factor) s = .next (answer p .loadFilm tag .ok
      (u16 (clamp 1 2000 count) ++ storedText lot ++ u16 (clamp 512 2047 factor)) (loadFilm count lot factor s)) := by
  simp only [exec, execLoadFilm, request_accepted hacc, hload, hlot, Bool.not_true, Bool.false_eq_true, ne_eq,
    not_true_eq_false, if_false]

theorem exec_loadFilm_wrongState {s : State} {p : Port} (hacc : accepts s p .loadFilm)
    (hload : ¬ loadAccepted s = true) (tag count : Nat) (lot : Text) (factor : Nat) :
    exec (.loadFilm p tag count lot factor) s = .next (withReply p 0x9B tag .wrongState [] s) := by
  simp only [exec, execLoadFilm, request_accepted hacc, Bool.eq_false_iff.mpr hload, Bool.not_false, if_true]
  rfl

/-! ### UNLOAD FILM (R150) -/

/-- R150: what an accepted UNLOAD FILM stores; the transport's test of its head changes none of it. -/
theorem unloadFilm_stores (s : State) :
    (unloadFilm s).comp = { s.comp with sheet := .unloaded } ∧ (unloadFilm s).film.film = .unloading
    ∧ (unloadFilm s).film.count = 0 := by
  simp [unloadFilm]

theorem unloadFilm_asks (s : State) : AskedFor .leaderOut (unloadFilm s) :=
  askedFor_pump (op := .leaderOut) nofun (askedFor_enqueueOp _ _)

/-- R150: the sheet state alone decides how UNLOAD FILM is answered. -/
theorem exec_unloadFilm {s : State} {p : Port} (hacc : accepts s p .unloadFilm) (tag : Nat) :
    exec (.unloadFilm p tag) s = .next (
      if s.comp.sheet = .idle then answer p .unloadFilm tag .ok [] (unloadFilm s)
      else if s.comp.sheet = .unloaded then withReply p 0x9C tag .noFilm [] s
      else withReply p 0x9C tag .wrongState [] s) := by
  simp only [exec, execUnloadFilm, request_accepted hacc]
  cases s.comp.sheet <;> rfl

/-- Settles O47: each command is a test of the sheet state, then `loadFilm` or `unloadFilm`, which ask for the advance
that `askedFor_pump` keeps asked for. -/
theorem filmIsLoadedAndUnloaded : Obligations.FilmIsLoadedAndUnloaded := by
  intro s p tag
  refine ⟨fun hacc count factor lot hlot => ⟨fun hload => ?_, fun hidle helse => ?_⟩,
    fun hacc => ⟨fun hidle => ?_, fun hunloaded => ?_, fun hidle hunloaded => ?_⟩⟩
  · obtain ⟨hcomp, hfilm, hcount, hfactor, hstored⟩ := loadFilm_stores count lot factor s
    refine ⟨_, exec_loadFilm_accepted hacc (loadAccepted_iff.mpr hload) hlot tag count factor,
      hcomp, hfilm, hcount, hfactor, hstored, ?_, loadFilm_asks count lot factor s, ?_⟩
    · rw [lastReply_answer, answer_film, hcount, hfactor, hstored]
      rfl
    · simp
  · refine exec_loadFilm_wrongState hacc (fun hload => ?_) tag count lot factor
    rcases loadAccepted_iff.mp hload with ⟨hsheet, hempty⟩ | hsheet
    · exact helse.elim (absurd hsheet) (absurd hempty)
    · exact hidle hsheet
  · obtain ⟨hcomp, hfilm, hcount⟩ := unloadFilm_stores s
    rw [exec_unloadFilm hacc, if_pos hidle]
    refine ⟨_, rfl, hcomp, hfilm, hcount, lastReply_answer _ _ _ _ _ _, unloadFilm_asks s, ?_⟩
    simp
  · rw [exec_unloadFilm hacc, if_neg (by simp [hunloaded]), if_pos hunloaded]
  · rw [exec_unloadFilm hacc, if_neg hidle, if_neg hunloaded]

end Sys2Proof.Machine.FilmLoading

/-! ## SET TITLE and the rendering at the entry to INDEXING (R164, R168, R169, R171 to R173) -/

namespace Sys2Proof.Machine.IndexRendering

/-! ### Texts and numbers (R7, R169, R171) -/

theorem padTo_eq_padded (n : Nat) (t : Text) : padTo n t = padded n t := by
  have hlen : (padTo n t).length = (padded n t).length := by simp [padTo, padded, spaces]
  refine List.ext_getElem hlen fun i _ _ => ?_
  by_cases hi : i < t.length
  · simp [padTo, padded, hi]
  · simp [padTo, padded, spaces, List.getElem_append_right (Nat.le_of_not_lt hi), Nat.le_of_not_lt hi]

theorem spaces_eq_padded (n : Nat) : spaces n = padded n [] := by
  simp [spaces, padded]

theorem digits2_eq (n : Nat) : digits2 n = decimalDigits 2 n := by
  simp [digits2, decimalDigits, List.range_succ]

theorem digits8_eq (n : Nat) : digits8 n = decimalDigits 8 n := by
  simp [digits8, digits2, decimalDigits, List.range_succ, Nat.div_div_eq_div_mul]

theorem frameAddress_eq (l : Layout) (n : Nat) : frameAddress l n = addressText l n := by
  rw [frameAddress, addressText, digits2_eq]

/-- R169: right-aligned in three positions, a leading zero is a space. -/
theorem number3_eq (n : Nat) :
    number3 n = [if n < 100 then 0x20#8 else BitVec.ofNat 8 (0x30 + n / 100 % 10),
      if n < 10 then 0x20#8 else BitVec.ofNat 8 (0x30 + n / 10 % 10), BitVec.ofNat 8 (0x30 + n % 10)] := by
  unfold number3
  split
  · next one =>
    rw [if_pos (by omega), Nat.mod_eq_of_lt one]
    rfl
  · split <;> rfl

/-! ### The frame order (R168) -/

theorem firstFrameOf_eq (e : Entry) : firstFrameOf e = e.firstFrame := by
  unfold firstFrameOf Entry.firstFrame
  cases e.runs <;> rfl

theorem insertEntry_perm (e : Entry) (l : List Entry) : (insertEntry e l).Perm (e :: l) := by
  induction l with
  | nil => exact .refl _
  | cons x l ih =>
    rw [insertEntry]
    split
    · exact .refl _
    · exact (ih.cons x).trans (.swap e x l)

/-- Entries whose first frames do not fall, as R168 orders them. -/
def InFrameOrder (l : List Entry) : Prop := l.Pairwise fun a b => firstFrameOf a ≤ firstFrameOf b

theorem insertEntry_inFrameOrder (e : Entry) {l : List Entry} (h : InFrameOrder l) : InFrameOrder (insertEntry e l) := by
  induction l with
  | nil => exact List.pairwise_singleton _ e
  | cons x l ih =>
    obtain ⟨hx, hl⟩ := List.pairwise_cons.mp h
    rw [insertEntry, ← firstFrameOf_eq, ← firstFrameOf_eq]
    split
    · next hlt =>
      refine List.pairwise_cons.mpr ⟨fun y hy => ?_, h⟩
      rcases List.mem_cons.mp hy with rfl | hy
      · exact hlt.le
      · exact hlt.le.trans (hx y hy)
    · next hle =>
      refine List.pairwise_cons.mpr ⟨fun y hy => ?_, ih hl⟩
      rcases List.mem_cons.mp ((insertEntry_perm e l).mem_iff.mp hy) with rfl | hy
      · exact Nat.le_of_not_lt hle
      · exact hx y hy

theorem frameOrder_eq_foldr (entries : List Entry) : frameOrder entries = entries.reverse.foldr insertEntry [] :=
  List.foldl_eq_foldr_reverse

theorem frameOrder_perm (entries : List Entry) : (frameOrder entries).Perm entries := by
  rw [frameOrder_eq_foldr]
  refine .trans ?_ (List.reverse_perm entries)
  induction entries.reverse with
  | nil => exact .refl _
  | cons e l ih => exact (insertEntry_perm e _).trans (ih.cons e)

theorem frameOrder_inFrameOrder (entries : List Entry) : InFrameOrder (frameOrder entries) := by
  rw [frameOrder_eq_foldr]
  induction entries.reverse with
  | nil => exact .nil
  | cons e l ih => exact insertEntry_inFrameOrder e ih

/-! ### The line of an entry (R164, R169) -/

/-- R164: the status of an entry without a mark, from the states of the frames that its runs name. -/
theorem status_of_unmarked {e : Entry} (h : e.mark = none) (frames : List FrameRec) : e.status frames =
    if ∃ n ∈ e.frames, ∃ f, frames[n]? = some f ∧ f.state = .spoiled then .partlySpoiled
    else if ∀ n ∈ e.frames, ∃ f, frames[n]? = some f ∧ f.state = .exposed then .exposed else .placed := by
  simp [Entry.status, h]

theorem statusLetter_is (frames : List FrameRec) (e : Entry) : LetterIs frames e (statusLetter (e.status frames)) := by
  refine ⟨fun hvoid => by simp only [Entry.status, hvoid, statusLetter],
    fun hinc => by simp only [Entry.status, hinc, statusLetter], fun spoiled exposed hmark hsp hex => ?_⟩
  rw [status_of_unmarked hmark, hsp, hex]
  refine ⟨fun h => ?_, fun h h' => ?_, fun h h' => ?_⟩
  · rw [if_pos h, statusLetter]
  · rw [if_neg h, if_pos h', statusLetter]
  · rw [if_neg h, if_neg h', statusLetter]

theorem entryLine_eq (l : Layout) (frames : List FrameRec) (e : Entry) :
    entryLine l frames e = padded 24 e.key ++ [0x20#8] ++ addressText l (firstFrameOf e) ++ [0x20#8]
      ++ [if e.pageCount < 100 then 0x20#8 else BitVec.ofNat 8 (0x30 + e.pageCount / 100 % 10),
          if e.pageCount < 10 then 0x20#8 else BitVec.ofNat 8 (0x30 + e.pageCount / 10 % 10),
          BitVec.ofNat 8 (0x30 + e.pageCount % 10), 0x20#8, statusLetter (e.status frames), 0x20#8,
          if e.kind = .normal then 0x50#8 else 0x52#8]
      ++ decimalDigits 2 e.num := by
  rw [entryLine, padTo_eq_padded, frameAddress_eq, number3_eq, digits2_eq, firstFrameOf_eq]
  cases e.kind <;> simp [spaces]

theorem slotLine_is (r : SheetRec) (order : List Entry) (m slot : Nat) :
    SlotIs r order (96 * m + slot) (slotLine r order m slot) := by
  unfold slotLine
  refine ⟨fun hle => ?_, fun e he => ⟨_, statusLetter_is r.frames e, ?_⟩⟩
  · rw [List.getElem?_eq_none hle]
    exact spaces_eq_padded 38
  · rw [he]
    exact entryLine_eq r.layout r.frames e

/-! ### The pages and the title (R168, R169, R171) -/

theorem indexPage_sheetLine (r : SheetRec) (order : List Entry) (m : Nat) :
    (indexPage r order m)[0]? =
      some (padded 76 ([0x53#8, 0x48#8, 0x45#8, 0x45#8, 0x54#8, 0x20#8] ++ decimalDigits 8 r.serial)) := by
  rw [indexPage, padTo_eq_padded, digits8_eq]
  rfl

theorem indexPage_pageLine (r : SheetRec) (order : List Entry) (m : Nat) :
    (indexPage r order m)[1]? =
      some (padded 76 [0x50#8, 0x41#8, 0x47#8, 0x45#8, 0x20#8, BitVec.ofNat 8 (0x30 + (m + 1)),
        0x20#8, 0x4F#8, 0x46#8, 0x20#8, BitVec.ofNat 8 (0x30 + r.layout.index)]) := by
  rw [indexPage, padTo_eq_padded, padTo_eq_padded, show 0x30 + (m + 1) = 0x31 + m by omega]
  rfl

/-- R168, R169: a line below the header holds the slot of column 1 and the slot of column 2, 48 further on. -/
theorem indexPage_entryLine (r : SheetRec) (order : List Entry) (m : Nat) {y : Nat} (hlo : 2 ≤ y) (hhi : y < 50) :
    (indexPage r order m)[y]? = some (slotLine r order m (y - 2) ++ slotLine r order m (y + 46)) := by
  obtain ⟨k, rfl⟩ := Nat.exists_eq_add_of_le' hlo
  have hk : k < 48 := by omega
  simp [indexPage, hk]

/-- R171: the two keys of line 2, or the one key, or none, by the number of entries. -/
theorem titleLine2_eq (order : List Entry) :
    titleLine2 order = padded 75 (match order.head?, order.getLast? with
      | some first, some last =>
        if order.length = 1 then first.key else first.key ++ [0x20#8, 0x54#8, 0x4F#8, 0x20#8] ++ last.key
      | _, _ => []) := by
  unfold titleLine2
  rw [padTo_eq_padded]
  match order with
  | [] => rfl
  | [e] => rfl
  | e :: x :: rest => simp [ascii, List.getLast?_cons]

theorem titleLine1_eq (template : Text) (serial : Nat) :
    titleLine1 template serial =
      padded 75 (template ++ (if template = [] then [] else [0x20#8]) ++ decimalDigits 8 serial) := by
  rw [titleLine1, padTo_eq_padded, digits8_eq]
  rfl

theorem renderSheet_page {template : Text} {r : SheetRec} {m : Nat} {page : List Text}
    (h : (renderSheet template r).pages[m]? = some page) : page = indexPage r (frameOrder r.entries) m := by
  obtain ⟨_, rfl⟩ := List.getElem?_eq_some_iff.mp h
  simp [renderSheet]

theorem enterIndexing_rendered (r : SheetRec) (s : State) :
    (enterIndexing r s).index.rendered = some (renderSheet s.index.template r) := rfl

/-! ### SET TITLE (R173) -/

theorem exec_setTitle {s : State} {p : Port} (hacc : accepts s p .setTitle) (tag : Nat) (text : Text) :
    exec (.setTitle p tag text) s = .next (if 32 < text.length then withReply p 0x9F tag .badValue [] s
      else withReply p 0x9F tag .ok (textField (storedText text))
        { s with index := { s.index with template := storedText text } }) := by
  simp only [exec, execSetTitle, request_accepted hacc]
  rfl

theorem textField_storedText (text : Text) : textField (storedText text) = u8 text.length ++ storedText text := by
  rw [textField, storedText, List.length_map]

/-- Settles O50: SET TITLE is one test of the length; what `enterIndexing` keeps is `renderSheet`, whose pages and title
are read line by line over the entries that `frameOrder` sorts. -/
theorem setTitleStoresTheTemplate : Obligations.SetTitleStoresTheTemplate := by
  refine ⟨?_, fun s r _ => ?_⟩
  · rintro s p tag text _ hacc rfl
    rw [exec_setTitle hacc]
    refine ⟨fun hle => ?_, fun hlt => congrArg _ (if_pos hlt)⟩
    rw [if_neg (Nat.not_lt.mpr hle), textField_storedText]
    rfl
  · refine ⟨_, enterIndexing_rendered r s, rfl, frameOrder r.entries, frameOrder_perm _, frameOrder_inFrameOrder _,
      by simp [renderSheet], fun m page hpage => ?_, ?_⟩
    · rw [renderSheet_page hpage]
      refine ⟨by simp [indexPage], indexPage_sheetLine _ _ m, indexPage_pageLine _ _ m, fun y hlo hhi =>
        ⟨_, _, indexPage_entryLine _ _ m hlo hhi, slotLine_is _ _ _ _, slotLine_is _ _ _ _⟩⟩
    · exact congrArg₂ (fun first second => [first, second]) (titleLine1_eq _ _) (titleLine2_eq _)

end Sys2Proof.Machine.IndexRendering

/-! ## The frame of a request and its reception (R175 to R177, R179) -/

namespace Sys2Proof.Machine.LinePorts

/-! ### The fields of a body (R179) -/

theorem toNat_byte {n : Nat} (h : fits8 n = true) : (BitVec.ofNat 8 n).toNat = n :=
  (BitVec.toNat_ofNat n 8).trans (Nat.mod_eq_of_lt (of_decide_eq_true h))

theorem word2_u16 {n : Nat} (h : fits16 n = true) : word2 (BitVec.ofNat 8 n) (BitVec.ofNat 8 (n / 256)) = n := by
  have : n < 65536 := of_decide_eq_true h
  simp only [word2, BitVec.toNat_ofNat]
  omega

theorem word4_u32 {n : Nat} (h : fits32 n = true) : word4 (BitVec.ofNat 8 n) (BitVec.ofNat 8 (n / 256))
    (BitVec.ofNat 8 (n / 65536)) (BitVec.ofNat 8 (n / 16777216)) = n := by
  have : n < 4294967296 := of_decide_eq_true h
  simp only [word4, BitVec.toNat_ofNat]
  omega

theorem words_flatMap_u16 {l : List Nat} (h : l.all fits16 = true) : words (l.flatMap u16) = some l := by
  induction l with
  | nil => rfl
  | cons n l ih =>
    obtain ⟨hn, hl⟩ := Bool.and_eq_true_iff.mp (List.all_cons ▸ h)
    rw [List.flatMap_cons, u16, List.cons_append, List.singleton_append, words, ih hl, word2_u16 hn]
    rfl

theorem toNat_flatMap_u8 {l : List Nat} (h : l.all fits8 = true) : (l.flatMap u8).map (·.toNat) = l := by
  induction l with
  | nil => rfl
  | cons n l ih =>
    obtain ⟨hn, hl⟩ := Bool.and_eq_true_iff.mp (List.all_cons ▸ h)
    rw [List.flatMap_cons, List.map_append, ih hl, u8, List.map_singleton, toNat_byte hn]
    rfl

theorem length_flatMap_u8 (l : List Nat) : (l.flatMap u8).length = l.length := by
  simp [u8]

theorem length_u16 (n : Nat) : (u16 n).length = 2 := rfl

theorem length_flatMap_u16 (l : List Nat) : (l.flatMap u16).length = 2 * l.length := by
  simp [length_u16, Nat.mul_comm]

theorem splitText_textField {t : Text} (h : t.length < 256) (l : List Byte) :
    splitText (textField t ++ l) = some (t, l) := by
  simp [textField, u8, splitText, Nat.mod_eq_of_lt h]

theorem flagOf_flag (b : Bool) : flagOf (BitVec.ofNat 8 b.toNat) = some b := by
  cases b <;> rfl

theorem onOff_onOffCode (b : Bool) : onOff (BitVec.ofNat 8 (onOffCode b)) = some b := by
  cases b <;> rfl

/-! ### The bodies that end in a list or a text -/

theorem parseSubmit_body {key : Text} {cls count : Nat} {pages : List Nat} (hkey : key.length < 256)
    (hcls : fits8 cls = true) (hcount : fits8 count = true) (hpages : pages.all fits16 = true) (p : Port) (tag : Nat)
    (stream : Bool) :
    parseSubmit p tag (textField key ++ u8 cls ++ flag stream ++ u8 count ++ pages.flatMap u16) =
      some (.submitDocument p tag key cls stream count pages) := by
  simp only [List.append_assoc, parseSubmit, splitText_textField hkey]
  simp only [u8, flag, List.cons_append, List.nil_append, flagOf_flag, words_flatMap_u16 hpages, toNat_byte hcls,
    toNat_byte hcount]

theorem parseTitle_body {text : Text} (h : text.length < 256) (p : Port) (tag : Nat) :
    parseTitle p tag (textField text) = some (.setTitle p tag text) := by
  have split := splitText_textField h []
  rw [List.append_nil] at split
  simp only [parseTitle, split]

theorem parseCurve_body {bank start count : Nat} {entries : List Nat} (hbank : fits8 bank = true)
    (hstart : fits8 start = true) (hcount : fits8 count = true) (hentries : entries.all fits16 = true) (p : Port)
    (tag : Nat) : parseCurve p tag (u8 bank ++ u8 start ++ u8 count ++ entries.flatMap u16) =
      some (.writeCurve p tag bank start count entries) := by
  simp only [u8, List.cons_append, List.nil_append, parseCurve, words_flatMap_u16 hentries, Option.map_some,
    toNat_byte hbank, toNat_byte hstart, toNat_byte hcount]

theorem parseResponse_body {points : List Nat} (hlength : points.length = 26) (hpoints : points.all fits16 = true)
    (p : Port) (tag : Nat) : parseResponse p tag (points.flatMap u16) = some (.setFilmResponse p tag points) := by
  rw [parseResponse, if_pos (by rw [length_flatMap_u16, hlength]), words_flatMap_u16 hpoints]
  rfl

theorem parseTone_body {port : Nat} {map : List Nat} (hport : fits8 port = true) (hlength : map.length = 16)
    (hmap : map.all fits8 = true) (p : Port) (tag : Nat) :
    parseTone p tag (u8 port ++ map.flatMap u8) = some (.setToneMap p tag port map) := by
  rw [u8, List.singleton_append, parseTone, if_pos (by rw [length_flatMap_u8, hlength]), toNat_flatMap_u8 hmap,
    toNat_byte hport]

theorem parseLoad_body {count factor : Nat} {lot : Text} (hcount : fits16 count = true) (hlot : lot.length = 8)
    (hfactor : fits16 factor = true) (p : Port) (tag : Nat) :
    parseLoad p tag (u16 count ++ lot ++ u16 factor) = some (.loadFilm p tag count lot factor) := by
  match lot, hlot with
  | [_, _, _, _, _, _, _, _], _ =>
    simp only [u16, List.cons_append, List.nil_append, parseLoad, word2_u16 hcount, word2_u16 hfactor]

/-! ### The body of a request -/

theorem fits_tag_of_requestOf {i : Instr} {p : Port} {k : Kind} {tag : Nat} {body : List Byte}
    (hwf : i.wellFormed = true) (hreq : requestOf i = some (p, k, tag, body)) : fits8 tag = true := by
  cases i <;> cases hreq <;> simp only [Instr.wellFormed, Bool.and_eq_true, and_assoc] at hwf <;> simp only [hwf]

/-- R176: the body of a well-formed request is no longer than a frame allows. -/
theorem body_length_le {i : Instr} {p : Port} {k : Kind} {tag : Nat} {body : List Byte}
    (hwf : i.wellFormed = true) (hreq : requestOf i = some (p, k, tag, body)) : body.length ≤ 16400 := by
  cases i <;> cases hreq <;> simp only [Instr.wellFormed, Bool.and_eq_true, decide_eq_true_eq] at hwf
  case submitDocument | putRows | setToneMap | writeCurve | setFilmResponse | loadFilm | setTitle =>
    simp only [textField, flag, u8, List.length_append, List.length_cons, List.length_nil, length_flatMap_u8,
      length_flatMap_u16, length_u16]
    omega
  all_goals exact Nat.le_of_ble_eq_true rfl

/-- R177, R179: the body of a well-formed request, read by the form of its kind, spells that request. -/
theorem parseBody_of_requestOf {i : Instr} {p : Port} {k : Kind} {tag : Nat} {body : List Byte}
    (hwf : i.wellFormed = true) (hreq : requestOf i = some (p, k, tag, body)) : parseBody p tag k body = some i := by
  cases i <;> cases hreq <;> simp only [Instr.wellFormed, Bool.and_eq_true, decide_eq_true_eq] at hwf
  case submitDocument =>
    obtain ⟨⟨⟨⟨⟨-, hkey⟩, hcls⟩, hcount⟩, hpages⟩, -⟩ := hwf
    exact parseSubmit_body hkey hcls hcount hpages _ _ _
  case setTitle => exact parseTitle_body hwf.2 _ _
  case writeCurve =>
    obtain ⟨⟨⟨⟨⟨-, hbank⟩, hstart⟩, hcount⟩, hentries⟩, -⟩ := hwf
    exact parseCurve_body hbank hstart hcount hentries _ _
  case setFilmResponse =>
    obtain ⟨⟨-, hlength⟩, hpoints⟩ := hwf
    exact parseResponse_body hlength hpoints _ _
  case setToneMap =>
    obtain ⟨⟨⟨-, hport⟩, hlength⟩, hmap⟩ := hwf
    exact parseTone_body hport hlength hmap _ _
  case loadFilm =>
    obtain ⟨⟨⟨-, hcount⟩, hlot⟩, hfactor⟩ := hwf
    exact parseLoad_body hcount hlot hfactor _ _
  case closeSheet | halt | resume | abortSheet | batchMark | measureBeam | unloadFilm | fetchNotices | attentionDone
    | readStatus | portReset => rfl
  all_goals
    simp only [parseBody, parse1, parse2, parseLimits, parseRows, u8, u16, u32, List.cons_append, List.nil_append,
      toNat_byte, word2_u16, word4_u32, onOff_onOffCode, Option.map_some, hwf]

/-! ### The frame (R175, R176) -/

theorem kindOfCode_code (k : Kind) : kindOfCode k.code = some k := by
  cases k <;> rfl

theorem fits_code (k : Kind) : fits8 k.code = true := by
  cases k <;> rfl

theorem length_withCheck (bytes : List Byte) : (withCheck bytes).length - 2 = bytes.length := by
  simp [withCheck, u16]

theorem take_withCheck (bytes : List Byte) : (withCheck bytes).take ((withCheck bytes).length - 2) = bytes := by
  rw [length_withCheck, withCheck, List.take_left]

theorem drop_withCheck (bytes : List Byte) :
    (withCheck bytes).drop ((withCheck bytes).length - 2) = u16 (crc bytes).toNat := by
  rw [length_withCheck, withCheck, List.drop_left]

theorem frameBodyOf_requestFrame (kind tag : Nat) (body : List Byte) :
    frameBodyOf (requestFrame kind tag body) = body := by
  rw [frameBodyOf, requestFrame, take_withCheck]
  rfl

theorem requestFrame_eq (kind tag : Nat) (body : List Byte) : requestFrame kind tag body =
    BitVec.ofNat 8 kind :: BitVec.ofNat 8 tag :: BitVec.ofNat 8 body.length :: BitVec.ofNat 8 (body.length / 256)
      :: (body ++ u16 (crc (u8 kind ++ u8 tag ++ u16 body.length ++ body)).toNat) := rfl

/-- R176, test 1, for a frame whose four bytes of head are known. -/
theorem frameSound_iff {bytes rest : List Byte} {kind tag n0 n1 : Byte} (h : bytes = kind :: tag :: n0 :: n1 :: rest) :
    frameSound bytes = true ↔ bytes.length = 6 + word2 n0 n1 ∧ word2 n0 n1 ≤ 16400
      ∧ bytes.drop (bytes.length - 2) = u16 (crc (bytes.take (bytes.length - 2))).toNat := by
  subst h
  simp only [frameSound, Bool.and_eq_true, decide_eq_true_eq, and_assoc]

theorem frameSound_requestFrame {body : List Byte} (h : body.length ≤ 16400) (kind tag : Nat) :
    frameSound (requestFrame kind tag body) = true := by
  rw [frameSound_iff (requestFrame_eq kind tag body), word2_u16 (decide_eq_true (by omega))]
  refine ⟨?_, h, ?_⟩
  · simp only [requestFrame_eq, List.length_cons, List.length_append, length_u16]
    omega
  · rw [requestFrame, drop_withCheck, take_withCheck]

/-- R176, R177: a sound frame that names a request kind is read by the form of that kind. -/
theorem receive_of_frameSound {bytes rest : List Byte} {kind tag : Byte} {k : Kind} (hsound : frameSound bytes = true)
    (h : bytes = kind :: tag :: rest) (hkind : kindOfCode kind.toNat = some k) (p : Port) : receive p bytes =
      some ((parseBody p tag.toNat k (frameBodyOf bytes)).getD (.unknownRequest p tag.toNat kind.toNat)) := by
  subst h
  simp only [receive, if_pos hsound, hkind]

/-- R176, R177: a request frame that fits its fields is read by the form of its kind. -/
theorem receive_requestFrame {tag : Nat} {body : List Byte} (htag : fits8 tag = true) (h : body.length ≤ 16400)
    (p : Port) (k : Kind) : receive p (requestFrame k.code tag body) =
      some ((parseBody p tag k body).getD (.unknownRequest p tag k.code)) := by
  have hcode := toNat_byte (fits_code k)
  rw [receive_of_frameSound (frameSound_requestFrame h _ _) (requestFrame_eq _ _ _) (hcode ▸ kindOfCode_code k),
    frameBodyOf_requestFrame, hcode, toNat_byte htag]

/-- Settles O3: the frame of a request is sound and names its kind, tag and body; the body spells the request. -/
theorem encodedRequestIsReceived : Obligations.EncodedRequestIsReceived := by
  intro i p k tag body bytes hwf hreq henc
  rw [encode, hreq] at henc
  obtain rfl : requestFrame k.code tag body = bytes := Option.some.inj henc
  rw [receive_requestFrame (fits_tag_of_requestOf hwf hreq) (body_length_le hwf hreq), parseBody_of_requestOf hwf hreq]
  rfl

end Sys2Proof.Machine.LinePorts

/-! ## What a port tests and answers itself (R174, R176, R177, R180 to R184) -/

namespace Sys2Proof.Machine.LinePorts

open Documents

/-! ### The tests of a request (R174, R176, R177) -/

theorem request_of_down {s : State} {p : Port} (hup : (s.ports.get p).up = false) (k : Kind) (tag : Nat)
    (block : State → State) : request p k tag s block = .next s := if_pos hup

theorem request_of_busy {s : State} {p : Port} (hup : (s.ports.get p).up = true) (hbusy : (s.ports.get p).busy ≠ none)
    (k : Kind) (tag : Nat) (block : State → State) :
    request p k tag s block = .next (withReply p (k.code + 0x80) tag .busy [] s) := by
  rw [request, if_neg (by simp [hup]), if_pos (Option.isSome_iff_ne_none.mpr hbusy), answer_eq]

theorem request_of_notPermitted {s : State} {p : Port} {k : Kind} (hup : (s.ports.get p).up = true)
    (hidle : (s.ports.get p).busy = none) (hkind : k.bureauOnly = true) (hcls : (s.ports.get p).cls = .feeder)
    (tag : Nat) (block : State → State) :
    request p k tag s block = .next (withReply p (k.code + 0x80) tag .notPermitted [] s) := by
  rw [request, if_neg (by simp [hup]), if_neg (by simp [hidle]), if_pos ⟨hkind, hcls⟩, answer_eq]

/-- R176: every request takes the tests of its port before its block sees it. -/
theorem exec_request {i : Instr} {p : Port} {k : Kind} {tag : Nat} {body : List Byte}
    (hreq : requestOf i = some (p, k, tag, body)) (s : State) : ∃ block, exec i s = request p k tag s block := by
  cases i <;> cases hreq <;> rw [exec] <;> exact ⟨_, rfl⟩

/-- Settles O4: every request takes the tests of `request`, whose three refusals stand before the block. -/
theorem portsTestRequestsFirst : Obligations.PortsTestRequestsFirst := by
  intro i p k tag body s hreq
  obtain ⟨block, hexec⟩ := exec_request hreq s
  rw [hexec]
  exact ⟨fun hup => request_of_down hup k tag block, fun hup hbusy => request_of_busy hup hbusy k tag block,
    fun hup hidle hkind hcls => request_of_notPermitted hup hidle hkind hcls tag block⟩

/-! ### Frames that carry no request (R176, R177) -/

theorem exec_badFrame {s : State} {p : Port} (hup : (s.ports.get p).up = true) :
    exec (.badFrame p) s = .next (withReply p 0x80 0 .badFrame [] s) := if_pos hup

/-- R177: the codes of the requests are 0x01 to 0x24. -/
theorem kindOfCode_eq_none {n : Nat} (h : n = 0 ∨ 0x24 < n) : kindOfCode n = none := by
  refine List.find?_eq_none.mpr fun k _ => ?_
  have hcode : 0 < k.code ∧ k.code ≤ 0x24 := by cases k <;> decide
  rw [beq_iff_eq]
  omega

/-- R177: how an UP port answers a kind that names no request. -/
theorem exec_unknownKind {s : State} {p : Port} {kind : Nat} (hup : (s.ports.get p).up = true)
    (hkind : kindOfCode kind = none) (tag : Nat) : exec (.unknownRequest p tag kind) s =
      .next (withReply p ((kind + 0x80) % 256) tag
        (if (s.ports.get p).busy.isSome then .busy else .unknownRequest) [] s) := by
  simp only [exec, execUnknownRequest, hkind, hup, Bool.true_eq_false, if_false]
  split <;> rfl

/-- R176: a frame whose body has not the form of its kind takes the tests of its port, then is refused. -/
theorem exec_wrongBody (s : State) (p : Port) (tag : Nat) (k : Kind) : exec (.unknownRequest p tag k.code) s =
    request p k tag s (withReply p (k.code + 0x80) tag .badValue []) := by
  simp only [exec, execUnknownRequest, kindOfCode_code]
  rfl

/-- Settles O5: a bad frame is answered at once; a kind that names no request by the handler's state; a body of a wrong
form as its kind, through the tests of the port. -/
theorem badAndUnknownFramesAreAnswered : Obligations.BadAndUnknownFramesAreAnswered := by
  refine fun s p hup => ⟨exec_badFrame hup, fun tag kind hkind => ?_, fun tag k => ?_⟩
  · rw [exec_unknownKind hup (kindOfCode_eq_none hkind)]
    refine ⟨fun hidle => ?_, fun hbusy => ?_⟩
    · rw [if_neg (by simp [hidle])]
    · rw [if_pos (Option.isSome_iff_ne_none.mpr hbusy)]
  · rw [exec_wrongBody]
    exact ⟨fun hbusy => request_of_busy hup hbusy _ _ _,
      fun hidle hkind hcls => request_of_notPermitted hup hidle hkind hcls _ _, fun hacc => request_accepted hacc _ _⟩

/-! ### The link and the quiet timer (R174, R184) -/

theorem exec_linkUp {s : State} {p : Port} (hdown : (s.ports.get p).up = false) : exec (.linkUp p) s =
    .next { s with ports := s.ports.set p { s.ports.get p with up := true, busy := none } } :=
  if_neg (by simp [hdown])

theorem exec_attentionDone {s : State} {p : Port} (hacc : accepts s p .attentionDone) (tag : Nat) :
    exec (.attentionDone p tag) s = .next (withReply p 0xA2 tag .ok []
      { s with ports := s.ports.set p { s.ports.get p with quiet := some s.now } }) := by
  rw [exec]
  exact request_accepted hacc tag _

theorem exec_quietTimerExpiry {s : State} {p : Port} {t0 : Nat} (hquiet : (s.ports.get p).quiet = some t0) :
    exec (.quietTimerExpiry p) s = .next { s with
      now := max s.now (t0 + 2000), ports := s.ports.set p { s.ports.get p with quiet := none } } := by
  simp only [exec, execQuietTimerExpiry, hquiet]
  rfl

/-- R183: the attention line is asserted by a record of an enabled kind, outside the quiet time. -/
theorem attention_iff {r : PortRec} :
    r.attention = true ↔ r.quiet = none ∧ ∃ n ∈ r.notices, r.mask.getLsbD (n.code - 1) = true := by
  rw [PortRec.attention, PortRec.attentionCondition, Bool.and_eq_true, List.any_eq_true, Option.isNone_iff_eq_none,
    and_comm]
  rfl

theorem attention_of_quiet {r : PortRec} {t0 : Nat} (h : r.quiet = some t0) : r.attention = false := by
  rw [PortRec.attention, h, Option.isNone_some, Bool.and_false]

/-- A reply on a port's link leaves its quiet timer. -/
theorem withReply_quiet (p : Port) (kind tag : Nat) (status : Status) (body : List Byte) (s : State) (q : Port) :
    ((withReply p kind tag status body s).ports.get q).quiet = (s.ports.get q).quiet :=
  PerPort.get_set_keep PortRec.quiet _ _ _ _ rfl

/-- Settles O6: LINK_UP, ATTENTION DONE and the expiry are each one change of the port's record; a running quiet timer
negates the line. -/
theorem linkUpAndQuietTimer : Obligations.LinkUpAndQuietTimer := by
  refine fun s p => ⟨exec_linkUp, fun tag hacc => ⟨_, exec_attentionDone hacc tag, rfl, ?_⟩,
    fun t0 => exec_quietTimerExpiry⟩
  apply attention_of_quiet (t0 := s.now)
  rw [withReply_quiet, PerPort.get_set_same]

/-! ### Notices (R180, R182, R183) -/

theorem exec_setNoticeMask {s : State} {p : Port} (hacc : accepts s p .setNoticeMask) (tag mask : Nat) :
    exec (.setNoticeMask p tag mask) s = .next (withReply p 0xA1 tag .ok (u16 (mask % 1024))
      { s with ports := s.ports.set p { s.ports.get p with mask := BitVec.ofNat 10 mask } }) := by
  rw [exec]
  exact request_accepted hacc tag _

/-- R182: the body of FETCH NOTICES: the overrun flag, the number taken, the number left and the records. -/
theorem fetchBody_eq (r : PortRec) : r.fetchBody =
    u8 (if r.overrun then 1 else 0) ++ u8 (min 8 r.notices.length) ++ u8 (r.notices.length - 8)
      ++ (r.notices.take 8).flatMap Notice.bytes := by
  rw [PortRec.fetchBody, flag_eq, List.length_take, List.length_drop]

theorem exec_fetchNotices {s : State} {p : Port} (hacc : accepts s p .fetchNotices) (tag : Nat) :
    exec (.fetchNotices p tag) s = .next (withReply p 0xA0 tag .ok (s.ports.get p).fetchBody
      { s with ports := s.ports.set p (s.ports.get p).fetched }) := by
  rw [exec]
  exact request_accepted hacc tag _

/-- Settles O7: SET NOTICE MASK and FETCH NOTICES by their effects, the attention line and a notice by the record of
their port. -/
theorem noticesAreMaskedQueuedAndFetched : Obligations.NoticesAreMaskedQueuedAndFetched := by
  refine ⟨fun s p tag mask hacc => exec_setNoticeMask hacc tag mask, fun r => attention_iff,
    fun r n => ⟨fun hroom => if_pos hroom, fun hfull => if_neg (Nat.not_lt.mpr hfull)⟩, fun s p tag hacc => ?_⟩
  rw [exec_fetchNotices hacc, fetchBody_eq]
  rfl

end Sys2Proof.Machine.LinePorts

/-! ## Steps: the free choices that an operation takes (log entries 2 and 3) -/

namespace Sys2Proof.Machine.Steps

/-! ### What takes no free choice

Pages that are dropped and documents that are released abandon PUT ROWS, but what these leave in the memory is settled
once for the whole event, by `landHead`. -/

@[simp] theorem dropPage_choices (h : Nat) (s : State) : (dropPage h s).choices = s.choices := by
  unfold dropPage
  split <;> simp

@[simp] theorem dropPages_choices (l : List Nat) (s : State) :
    (l.foldl (fun s h => dropPage h s) s).choices = s.choices :=
  foldl_keep (g := State.choices) (fun s h => dropPage_choices h s) l s

@[simp] theorem releaseDoc_choices (h : Nat) (s : State) : (releaseDoc h s).choices = s.choices := by
  unfold releaseDoc
  split <;> simp

@[simp] theorem releaseDocs_choices (l : List Nat) (s : State) :
    (l.foldl (fun s h => releaseDoc h s) s).choices = s.choices :=
  foldl_keep (g := State.choices) (fun s h => releaseDoc_choices h s) l s

@[simp] theorem testRelease_choices (h : Nat) (s : State) : (testRelease h s).choices = s.choices := by
  unfold testRelease
  (repeat' split) <;> simp

@[simp] theorem finalizeDoc_choices (h : Nat) (st : DocState) (reason : Option Reason) (s : State) :
    (finalizeDoc h st reason s).choices = s.choices := by
  unfold finalizeDoc
  split <;> simp

@[simp] theorem expireDoc_choices (h : Nat) (s : State) : (expireDoc h s).choices = s.choices := by
  simp [expireDoc]

@[simp] theorem expireDocs_choices (l : List Nat) (s : State) :
    (l.foldl (fun s h => expireDoc h s) s).choices = s.choices :=
  foldl_keep (g := State.choices) (fun s h => expireDoc_choices h s) l s

@[simp] theorem finishDoc_choices (s : State) (h : Nat) : (finishDoc s h).choices = s.choices := by
  unfold finishDoc
  (repeat' split) <;> simp

@[simp] theorem finishDocs_choices (s : State) : (finishDocs s).choices = s.choices :=
  foldl_keep (g := State.choices) finishDoc_choices _ s

@[simp] theorem reclaimDocs_choices (s : State) : (reclaimDocs s).choices = s.choices :=
  foldl_keep (g := State.choices) (fun s h => testRelease_choices h s) _ s

@[simp] theorem dropUnplaced_choices (p : Port) (s : State) : (dropUnplaced p s).choices = s.choices := by
  unfold dropUnplaced
  dsimp only
  split <;> simp

@[simp] theorem dropDetached_choices (p : Port) (s : State) : (dropDetached p s).choices = s.choices := by
  simp [dropDetached]

@[simp] theorem drop_choices (p : Port) (tag page : Nat) (s : State) : (drop p tag page s).choices = s.choices := by
  unfold drop
  (repeat' split) <;> simp

@[simp] theorem cancelDoc_choices (h : Nat) (d : Doc) (s : State) : (cancelDoc h d s).choices = s.choices := by
  simp [cancelDoc]

@[simp] theorem acceptCancel_choices (p : Port) (tag h : Nat) (d : Doc) (s : State) :
    (acceptCancel p tag h d s).choices = s.choices := by
  unfold acceptCancel
  split <;> simp

@[simp] theorem cancel_choices (p : Port) (tag h : Nat) (s : State) : (cancel p tag h s).choices = s.choices := by
  unfold cancel
  (repeat' split) <;> simp

/-! ### What may take one -/

/-- R84, R90: how many bytes of an abandoned PUT ROWS stand in the memory is one free choice. -/
theorem choices_le_landHead (before s : State) : s.choices ≤ (landHead before s).choices := by
  unfold landHead
  (repeat' split) <;> simp

/-- R1, R10: a reset takes one more, for the serial cell. -/
theorem choices_le_resetPart (straps : PerPort PortClass) (s : State) : s.choices ≤ (resetPart straps s).choices :=
  Nat.le_succ_of_le (choices_le_landHead s { s with store := { s.store with writes := [] } })

theorem choices_le_expireCompletion (s : State) : s.choices ≤ (expireCompletion s).choices := by
  unfold expireCompletion
  split
  · exact le_rfl
  · simp only [triggerPorts_keeps]
    exact le_trans (by simp) (choices_le_landHead _ _)

theorem choices_le_applyCompletion (s : State) : s.choices ≤ (applyCompletion s).choices := by
  unfold applyCompletion
  (repeat' split) <;> simp [choices_le_expireCompletion]

theorem choices_le_finishSheet (s : State) : s.choices ≤ (finishSheet s).choices := by
  unfold finishSheet
  split
  · exact le_rfl
  · simp only [apply_ite State.choices, ite_self, notifyAll_choices]
    refine le_trans (Eq.le ?_) (choices_le_landHead _ _)
    rw [reclaimDocs_choices]
    split <;> simp

theorem choices_le_portResetCore (p : Port) (s : State) : s.choices ≤ (portResetCore p s).choices := by
  unfold portResetCore
  exact le_trans (by simp) (choices_le_landHead _ _)

/-- R12, R186: the tests that follow a port reset take no free choice. -/
theorem choices_le_resetPort (p : Port) (s : State) : s.choices ≤ (resetPort p s).choices := by
  obtain ⟨-, choices, -⟩ := (Documents.resetPort_left p s).1.model
  exact (choices_le_portResetCore p s).trans choices.ge

theorem choices_le_rejectEffects (p : Port) (h : Nat) (reason : Reason) (page : Nat) (s : State) :
    s.choices ≤ (rejectEffects p h reason page s).choices := by
  unfold rejectEffects
  exact le_trans (by simp) (choices_le_landHead _ _)

end Sys2Proof.Machine.Steps

/-! ## Steps: what every command keeps, and what a step is (1.7, 1.12) -/

namespace Sys2Proof.Machine.Steps

/-! ### The queue, the clock and the counter of free choices -/

/-- The commands that wait are the same, and neither the clock nor the counter of free choices has gone back. -/
structure GoesOn (s t : State) : Prop where
  queue   : t.pending = s.pending
  clock   : s.now ≤ t.now
  choices : s.choices ≤ t.choices

theorem GoesOn.of_model {s t : State} (h : t.now = s.now ∧ t.choices = s.choices ∧ t.pending = s.pending) :
    GoesOn s t := by
  obtain ⟨clock, choices, queue⟩ := h
  exact ⟨queue, clock.ge, choices.ge⟩

theorem GoesOn.refl (s : State) : GoesOn s s := .of_model ⟨rfl, rfl, rfl⟩

/-- R1: the clock and the waiting commands outlive a reset. -/
theorem resetPart_goesOn (straps : PerPort PortClass) (s : State) : GoesOn s (resetPart straps s) :=
  ⟨by simp [resetPart, State.afterReset], by simp [resetPart, State.afterReset], choices_le_resetPart straps s⟩

/-! ### Every command -/

/-- R176: a request whose block moves neither the queue, the clock nor the counter of free choices. -/
theorem request_model {p : Port} {k : Kind} {tag : Nat} {s t : State} {block : State → State}
    (h : request p k tag s block = .next t)
    (hb : (block s).now = s.now ∧ (block s).choices = s.choices ∧ (block s).pending = s.pending) :
    t.now = s.now ∧ t.choices = s.choices ∧ t.pending = s.pending := by
  rcases Documents.request_cases h with rfl | ⟨status, rfl⟩ | ⟨-, rfl⟩
  · exact ⟨rfl, rfl, rfl⟩
  · exact ⟨rfl, rfl, rfl⟩
  · exact hb

theorem request_goesOn {p : Port} {k : Kind} {tag : Nat} {s t : State} {block : State → State}
    (h : request p k tag s block = .next t) (hb : GoesOn s (block s)) : GoesOn s t := by
  rcases Documents.request_cases h with rfl | ⟨status, rfl⟩ | ⟨-, rfl⟩
  · exact .refl _
  · exact .of_model ⟨rfl, rfl, rfl⟩
  · exact hb

/-- The commands that may move the clock, and take no free choice (log entry 7). -/
def movesClock : Instr → Bool
  | .ageTimerExpiry | .pauseTimerExpiry | .quietTimerExpiry _ | .operationTimeout | .retraceStart | .lineEnd
  | .measurementComplete _ => true
  | _ => false

/-- The commands that may take a free choice: the resets, and what may abandon the oldest PUT ROWS (log entries 2 and
3). Of these COMPLETION_TIMER_EXPIRY moves the clock too. -/
def takesChoice : Instr → Bool
  | .powerOn _ | .deviceReset _ | .linkDown _ | .portReset _ _ | .setLimits _ _ _ _ _ _ | .completionTimerExpiry
  | .finishingCutComplete | .rejection => true
  | _ => false

/-- Every other command leaves the clock and the counter where they are. -/
theorem exec_keeps_model {c : Instr} (hclock : movesClock c = false) (hchoice : takesChoice c = false) {s t : State}
    (h : exec c s = .next t) : t.now = s.now ∧ t.choices = s.choices ∧ t.pending = s.pending := by
  cases c <;> simp only [movesClock, reduceCtorEq] at hclock <;> simp only [takesChoice, reduceCtorEq] at hchoice <;>
    simp only [exec] at h
  case linkUp => unfold execLinkUp at h; split at h <;> cases h <;> simp
  case badFrame => unfold execBadFrame at h; split at h <;> cases h <;> simp
  case unknownRequest =>
    unfold execUnknownRequest at h
    split at h
    · exact request_model h ⟨rfl, rfl, rfl⟩
    · dsimp only at h
      (repeat' split at h) <;> cases h <;> simp
  case serialWriteComplete =>
    unfold execSerialWriteComplete at h
    split at h <;> cases h
    · split <;> simp
    · exact ⟨rfl, rfl, rfl⟩
  case openingAdvanceComplete => unfold execOpeningAdvanceComplete at h; split at h <;> cases h <;> simp
  case leaderInAdvanceComplete => unfold execLeaderInAdvanceComplete at h; split at h <;> cases h <;> simp
  case leaderOutAdvanceComplete => unfold execLeaderOutAdvanceComplete at h; split at h <;> cases h <;> simp
  case stageArrival => unfold execStageArrival at h; split at h <;> cases h <;> simp
  case homingComplete => unfold execHomingComplete at h; split at h <;> cases h <;> simp
  case positionLoss => cases h; simp
  case gateRelease => unfold execGateRelease at h; split at h <;> cases h <;> simp
  case frameStart => unfold execFrameStart at h; (repeat' split at h) <;> cases h <;> simp
  case grant => unfold execGrant at h; split at h <;> cases h <;> simp
  case retakeUnfit => unfold execRetakeUnfit at h; split at h <;> cases h <;> simp
  case tryFailure => unfold execTryFailure at h; split at h <;> cases h <;> simp
  case rowsWritten => unfold execRowsWritten at h; (repeat' split at h) <;> cases h <;> simp
  case batchMark => refine request_model h ?_; dsimp only; split <;> simp
  all_goals
    refine request_model h ?_
    (repeat' split) <;> simp

/-- Log entry 7: the clock moves to no earlier than the moment of the event. -/
theorem exec_goesOn_of_movesClock {c : Instr} (hc : movesClock c = true) {s t : State} (h : exec c s = .next t) :
    GoesOn s t := by
  cases c <;> simp only [movesClock, Bool.false_eq_true] at hc <;> simp only [exec] at h
  case ageTimerExpiry =>
    unfold execAgeTimerExpiry at h
    (repeat' split at h) <;> cases h <;> constructor <;> simp
  case pauseTimerExpiry =>
    unfold execPauseTimerExpiry at h
    (repeat' split at h) <;> cases h <;> constructor <;> simp
  case quietTimerExpiry p =>
    unfold execQuietTimerExpiry at h
    split at h <;> cases h <;> constructor <;> simp
  case operationTimeout =>
    unfold execOperationTimeout at h
    split at h <;> cases h <;> constructor <;> simp
  case measurementComplete power =>
    unfold execMeasurementComplete at h
    (repeat' split at h) <;> cases h <;> constructor <;> simp
  case lineEnd =>
    unfold execLineEnd at h
    dsimp only at h
    (repeat' split at h) <;> cases h <;> constructor <;> simp
  case retraceStart =>
    unfold execRetraceStart at h
    dsimp only at h
    (repeat' split at h) <;> cases h <;> constructor <;> simp [endDots]

theorem exec_goesOn_of_takesChoice {c : Instr} (hc : takesChoice c = true) {s t : State} (h : exec c s = .next t) :
    GoesOn s t := by
  cases c <;> simp only [takesChoice, Bool.false_eq_true] at hc <;> simp only [exec] at h
  case powerOn straps => cases h; exact resetPart_goesOn straps s
  case deviceReset straps => cases h; exact resetPart_goesOn straps s
  case linkDown p =>
    unfold execLinkDown at h
    split at h <;> cases h
    · exact ⟨by simp, by simp, le_trans (by simp) (choices_le_resetPort p _)⟩
    · exact .refl s
  case portReset p tag => exact request_goesOn h ⟨by simp, by simp, choices_le_resetPort p s⟩
  case setLimits p tag pause completion age starve =>
    refine request_goesOn h ⟨by simp, by simp, ?_⟩
    simp only [answer_choices, settle_keeps, closeTest_keeps, applyAge_keeps]
    exact le_trans (by simp) (choices_le_applyCompletion _)
  case completionTimerExpiry =>
    unfold execCompletionTimerExpiry at h
    split at h <;> cases h
    · refine ⟨by simp, by simp, ?_⟩
      simp only [settle_keeps]
      exact le_trans (by simp) (choices_le_expireCompletion _)
    · exact .refl s
  case finishingCutComplete =>
    unfold execFinishingCutComplete at h
    split at h <;> cases h
    · refine ⟨by simp, by simp, ?_⟩
      simp only [settle_keeps]
      exact le_trans (by simp) (choices_le_finishSheet _)
    · exact .refl s
  case rejection =>
    unfold execRejection at h
    split at h <;> cases h
    · refine ⟨by simp, by simp, ?_⟩
      simp only [closeIfChanged_keeps]
      exact le_trans (by simp) (choices_le_rejectEffects ..)
    all_goals exact .refl s

theorem exec_goesOn {c : Instr} {s t : State} (h : exec c s = .next t) : GoesOn s t := by
  cases hclock : movesClock c with
  | true => exact exec_goesOn_of_movesClock hclock h
  | false =>
    cases hchoice : takesChoice c with
    | true => exact exec_goesOn_of_takesChoice hchoice h
    | false => exact .of_model (exec_keeps_model hclock hchoice h)

/-- Settles O2: no command changes the queue; the clock moves at an expiry and its like, the counter at a free choice. -/
theorem commandsKeepQueueAndClock : Obligations.CommandsKeepQueueAndClock := by
  intro c s t h
  obtain ⟨queue, clock, choices⟩ := exec_goesOn h
  exact ⟨queue, clock, choices⟩

/-! ### A step -/

theorem step_of_pending {s : State} {c : Instr} {rest : List Instr} (h : s.pending = c :: rest) :
    step s = exec c { s with pending := rest } := by rw [step, h]

theorem step_of_no_pending {s : State} (h : s.pending = []) : step s = .next (tick s) := by rw [step, h]

/-- Settles O1: a step is the front command or a tick, and a tick is the clock's and what a run does by itself. -/
theorem stepTakesTheFrontCommand : Obligations.StepTakesTheFrontCommand := by
  refine ⟨fun s c rest h => step_of_pending h, fun s h hrun => ?_, fun s h => ?_⟩
  · rw [step_of_no_pending h]
    exact congrArg _ (goOn_of_no_run hrun)
  · exact ⟨tick s, step_of_no_pending h, goOn_from _⟩

end Sys2Proof.Machine.Steps
